-- ==== Sys2Proof/Word.lean ====
section
/-! DEFINITION. The two widths of the CORE (spec/00_scope.md R7): the data word is 8 bits, the address 16. -/

namespace Sys2Proof

/-- A data byte (R7). -/
abbrev Byte := BitVec 8

/-- A 16-bit address, register pair, SP or PC (R7). -/
abbrev Word := BitVec 16

end Sys2Proof
end

