-- ==== Sys2Proof/Machine/Bits.lean ====
section
/-! DEFINITION. Byte order and sign extension: the notation of spec/00_scope.md R9 to R11. -/

namespace Sys2Proof

/-- `v[15:8]` (R9). -/
def hiByte (v : Word) : Byte := v.extractLsb' 8 8

/-- `v[7:0]` (R9). -/
def loByte (v : Word) : Byte := v.extractLsb' 0 8

/-- `hi ++ lo`, that is hi * 256 + lo (R9). -/
def joinBytes (hi lo : Byte) : Word := hi ++ lo

/-- `sext_16(v) = v + (v[7] ? 0xFF00 : 0)` (R11, R134). -/
def sext16 (v : Byte) : Word := v.setWidth 16 + (if v.getLsbD 7 then 0xFF00#16 else 0x0000#16)

/-- The bit of a truth value, as a byte. -/
def bitByte (b : Bool) : Byte := if b then 0x01#8 else 0x00#8

end Sys2Proof
end

