-- ==== Sys2Proof/WellFormed.lean ====
section
/-! DEFINITION. Which instructions are well formed: those that have a descriptor in the opcode table. Every operand
fits its field by its type (a byte, a word, a register name), so this is the only check. -/

namespace Sys2Proof

/-- An instruction is well formed when it is one of the 500 with a descriptor (spec/30_encoding.md R103, R116), not
one of the eleven unassigned codes (R114). -/
def Instr.wellFormed (i : Instr) : Bool := !(Instr.unassigned.contains i)

end Sys2Proof
end

