-- ==== Sys2Proof/Decode.lean ====
section
/-! DEFINITION. The decoder, total on any bytes and rejecting by name, from the opcode maps of spec/30_encoding.md
R108 and R109; then the encoder; then the two of them on the numbering of spec/opcode_table.json. -/

namespace Sys2Proof

/-- What the first byte of an instruction says (R101, R107, R112). -/
inductive Entry where
  /-- A one-byte instruction. -/
  | op (i : Instr)
  /-- STOP: a two-byte instruction whose second byte is ignored and never read (R107, spec/45_misc.md R278). -/
  | opSkip (i : Instr)
  /-- One immediate byte follows: `n8` or `e8`. -/
  | imm8 (mk : Byte → Instr)
  /-- Two immediate bytes follow: `n16`, low byte first. -/
  | imm16 (mk : Word → Instr)
  /-- The prefix 0xCB: the extended opcode follows. -/
  | cbPrefix

/-- R108, row 0x. -/
def baseRow0 : Vector Entry 16 :=
  #v[.op .nop, .imm16 .ld_BC_n16, .op .ld_indBC_A, .op .inc_BC,
     .op .inc_B, .op .dec_B, .imm8 .ld_B_n8, .op .rlca,
     .imm16 .ld_indN16_SP, .op .add_HL_BC, .op .ld_A_indBC, .op .dec_BC,
     .op .inc_C, .op .dec_C, .imm8 .ld_C_n8, .op .rrca]

/-- R108, row 1x. -/
def baseRow1 : Vector Entry 16 :=
  #v[.opSkip .stop, .imm16 .ld_DE_n16, .op .ld_indDE_A, .op .inc_DE,
     .op .inc_D, .op .dec_D, .imm8 .ld_D_n8, .op .rla,
     .imm8 .jr_e8, .op .add_HL_DE, .op .ld_A_indDE, .op .dec_DE,
     .op .inc_E, .op .dec_E, .imm8 .ld_E_n8, .op .rra]

/-- R108, row 2x. -/
def baseRow2 : Vector Entry 16 :=
  #v[.imm8 .jr_NZ_e8, .imm16 .ld_HL_n16, .op .ld_indHLinc_A, .op .inc_HL,
     .op .inc_H, .op .dec_H, .imm8 .ld_H_n8, .op .daa,
     .imm8 .jr_Z_e8, .op .add_HL_HL, .op .ld_A_indHLinc, .op .dec_HL,
     .op .inc_L, .op .dec_L, .imm8 .ld_L_n8, .op .cpl]

/-- R108, row 3x. -/
def baseRow3 : Vector Entry 16 :=
  #v[.imm8 .jr_NC_e8, .imm16 .ld_SP_n16, .op .ld_indHLdec_A, .op .inc_SP,
     .op .inc_indHL, .op .dec_indHL, .imm8 .ld_indHL_n8, .op .scf,
     .imm8 .jr_C_e8, .op .add_HL_SP, .op .ld_A_indHLdec, .op .dec_SP,
     .op .inc_A, .op .dec_A, .imm8 .ld_A_n8, .op .ccf]

/-- R108, row 4x. -/
def baseRow4 : Vector Entry 16 :=
  #v[.op .ld_B_B, .op .ld_B_C, .op .ld_B_D, .op .ld_B_E,
     .op .ld_B_H, .op .ld_B_L, .op .ld_B_indHL, .op .ld_B_A,
     .op .ld_C_B, .op .ld_C_C, .op .ld_C_D, .op .ld_C_E,
     .op .ld_C_H, .op .ld_C_L, .op .ld_C_indHL, .op .ld_C_A]

/-- R108, row 5x. -/
def baseRow5 : Vector Entry 16 :=
  #v[.op .ld_D_B, .op .ld_D_C, .op .ld_D_D, .op .ld_D_E,
     .op .ld_D_H, .op .ld_D_L, .op .ld_D_indHL, .op .ld_D_A,
     .op .ld_E_B, .op .ld_E_C, .op .ld_E_D, .op .ld_E_E,
     .op .ld_E_H, .op .ld_E_L, .op .ld_E_indHL, .op .ld_E_A]

/-- R108, row 6x. -/
def baseRow6 : Vector Entry 16 :=
  #v[.op .ld_H_B, .op .ld_H_C, .op .ld_H_D, .op .ld_H_E,
     .op .ld_H_H, .op .ld_H_L, .op .ld_H_indHL, .op .ld_H_A,
     .op .ld_L_B, .op .ld_L_C, .op .ld_L_D, .op .ld_L_E,
     .op .ld_L_H, .op .ld_L_L, .op .ld_L_indHL, .op .ld_L_A]

/-- R108, row 7x. -/
def baseRow7 : Vector Entry 16 :=
  #v[.op .ld_indHL_B, .op .ld_indHL_C, .op .ld_indHL_D, .op .ld_indHL_E,
     .op .ld_indHL_H, .op .ld_indHL_L, .op .halt, .op .ld_indHL_A,
     .op .ld_A_B, .op .ld_A_C, .op .ld_A_D, .op .ld_A_E,
     .op .ld_A_H, .op .ld_A_L, .op .ld_A_indHL, .op .ld_A_A]

/-- R108, row 8x. -/
def baseRow8 : Vector Entry 16 :=
  #v[.op .add_A_B, .op .add_A_C, .op .add_A_D, .op .add_A_E,
     .op .add_A_H, .op .add_A_L, .op .add_A_indHL, .op .add_A_A,
     .op .adc_A_B, .op .adc_A_C, .op .adc_A_D, .op .adc_A_E,
     .op .adc_A_H, .op .adc_A_L, .op .adc_A_indHL, .op .adc_A_A]

/-- R108, row 9x. -/
def baseRow9 : Vector Entry 16 :=
  #v[.op .sub_B, .op .sub_C, .op .sub_D, .op .sub_E,
     .op .sub_H, .op .sub_L, .op .sub_indHL, .op .sub_A,
     .op .sbc_A_B, .op .sbc_A_C, .op .sbc_A_D, .op .sbc_A_E,
     .op .sbc_A_H, .op .sbc_A_L, .op .sbc_A_indHL, .op .sbc_A_A]

/-- R108, row Ax. -/
def baseRowA : Vector Entry 16 :=
  #v[.op .and_B, .op .and_C, .op .and_D, .op .and_E,
     .op .and_H, .op .and_L, .op .and_indHL, .op .and_A,
     .op .xor_B, .op .xor_C, .op .xor_D, .op .xor_E,
     .op .xor_H, .op .xor_L, .op .xor_indHL, .op .xor_A]

/-- R108, row Bx. -/
def baseRowB : Vector Entry 16 :=
  #v[.op .or_B, .op .or_C, .op .or_D, .op .or_E,
     .op .or_H, .op .or_L, .op .or_indHL, .op .or_A,
     .op .cp_B, .op .cp_C, .op .cp_D, .op .cp_E,
     .op .cp_H, .op .cp_L, .op .cp_indHL, .op .cp_A]

/-- R108, row Cx. -/
def baseRowC : Vector Entry 16 :=
  #v[.op .ret_NZ, .op .pop_BC, .imm16 .jp_NZ_n16, .imm16 .jp_n16,
     .imm16 .call_NZ_n16, .op .push_BC, .imm8 .add_A_n8, .op .rst_00,
     .op .ret_Z, .op .ret, .imm16 .jp_Z_n16, .cbPrefix,
     .imm16 .call_Z_n16, .imm16 .call_n16, .imm8 .adc_A_n8, .op .rst_08]

/-- R108, row Dx. -/
def baseRowD : Vector Entry 16 :=
  #v[.op .ret_NC, .op .pop_DE, .imm16 .jp_NC_n16, .op .illegal_D3,
     .imm16 .call_NC_n16, .op .push_DE, .imm8 .sub_n8, .op .rst_10,
     .op .ret_C, .op .reti, .imm16 .jp_C_n16, .op .illegal_DB,
     .imm16 .call_C_n16, .op .illegal_DD, .imm8 .sbc_A_n8, .op .rst_18]

/-- R108, row Ex. -/
def baseRowE : Vector Entry 16 :=
  #v[.imm8 .ldh_indN8_A, .op .pop_HL, .op .ld_indC_A, .op .illegal_E3,
     .op .illegal_E4, .op .push_HL, .imm8 .and_n8, .op .rst_20,
     .imm8 .add_SP_e8, .op .jp_HL, .imm16 .ld_indN16_A, .op .illegal_EB,
     .op .illegal_EC, .op .illegal_ED, .imm8 .xor_n8, .op .rst_28]

/-- R108, row Fx. -/
def baseRowF : Vector Entry 16 :=
  #v[.imm8 .ldh_A_indN8, .op .pop_AF, .op .ld_A_indC, .op .di,
     .op .illegal_F4, .op .push_AF, .imm8 .or_n8, .op .rst_30,
     .imm8 .ld_HL_SPe8, .op .ld_SP_HL, .imm16 .ld_A_indN16, .op .ei,
     .op .illegal_FC, .op .illegal_FD, .imm8 .cp_n8, .op .rst_38]

/-- The unprefixed page (R108), by high nibble and low nibble. -/
def basePage : Vector (Vector Entry 16) 16 :=
  #v[baseRow0, baseRow1, baseRow2, baseRow3, baseRow4, baseRow5, baseRow6, baseRow7,
     baseRow8, baseRow9, baseRowA, baseRowB, baseRowC, baseRowD, baseRowE, baseRowF]

/-- R109, row 0x. -/
def cbRow0 : Vector Instr 16 :=
  #v[.rlc_B, .rlc_C, .rlc_D, .rlc_E, .rlc_H, .rlc_L, .rlc_indHL, .rlc_A,
     .rrc_B, .rrc_C, .rrc_D, .rrc_E, .rrc_H, .rrc_L, .rrc_indHL, .rrc_A]

/-- R109, row 1x. -/
def cbRow1 : Vector Instr 16 :=
  #v[.rl_B, .rl_C, .rl_D, .rl_E, .rl_H, .rl_L, .rl_indHL, .rl_A,
     .rr_B, .rr_C, .rr_D, .rr_E, .rr_H, .rr_L, .rr_indHL, .rr_A]

/-- R109, row 2x. -/
def cbRow2 : Vector Instr 16 :=
  #v[.sla_B, .sla_C, .sla_D, .sla_E, .sla_H, .sla_L, .sla_indHL, .sla_A,
     .sra_B, .sra_C, .sra_D, .sra_E, .sra_H, .sra_L, .sra_indHL, .sra_A]

/-- R109, row 3x. -/
def cbRow3 : Vector Instr 16 :=
  #v[.swap_B, .swap_C, .swap_D, .swap_E, .swap_H, .swap_L, .swap_indHL, .swap_A,
     .srl_B, .srl_C, .srl_D, .srl_E, .srl_H, .srl_L, .srl_indHL, .srl_A]

/-- R109, row 4x. -/
def cbRow4 : Vector Instr 16 :=
  #v[.bit_0_B, .bit_0_C, .bit_0_D, .bit_0_E, .bit_0_H, .bit_0_L, .bit_0_indHL, .bit_0_A,
     .bit_1_B, .bit_1_C, .bit_1_D, .bit_1_E, .bit_1_H, .bit_1_L, .bit_1_indHL, .bit_1_A]

/-- R109, row 5x. -/
def cbRow5 : Vector Instr 16 :=
  #v[.bit_2_B, .bit_2_C, .bit_2_D, .bit_2_E, .bit_2_H, .bit_2_L, .bit_2_indHL, .bit_2_A,
     .bit_3_B, .bit_3_C, .bit_3_D, .bit_3_E, .bit_3_H, .bit_3_L, .bit_3_indHL, .bit_3_A]

/-- R109, row 6x. -/
def cbRow6 : Vector Instr 16 :=
  #v[.bit_4_B, .bit_4_C, .bit_4_D, .bit_4_E, .bit_4_H, .bit_4_L, .bit_4_indHL, .bit_4_A,
     .bit_5_B, .bit_5_C, .bit_5_D, .bit_5_E, .bit_5_H, .bit_5_L, .bit_5_indHL, .bit_5_A]

/-- R109, row 7x. -/
def cbRow7 : Vector Instr 16 :=
  #v[.bit_6_B, .bit_6_C, .bit_6_D, .bit_6_E, .bit_6_H, .bit_6_L, .bit_6_indHL, .bit_6_A,
     .bit_7_B, .bit_7_C, .bit_7_D, .bit_7_E, .bit_7_H, .bit_7_L, .bit_7_indHL, .bit_7_A]

/-- R109, row 8x. -/
def cbRow8 : Vector Instr 16 :=
  #v[.res_0_B, .res_0_C, .res_0_D, .res_0_E, .res_0_H, .res_0_L, .res_0_indHL, .res_0_A,
     .res_1_B, .res_1_C, .res_1_D, .res_1_E, .res_1_H, .res_1_L, .res_1_indHL, .res_1_A]

/-- R109, row 9x. -/
def cbRow9 : Vector Instr 16 :=
  #v[.res_2_B, .res_2_C, .res_2_D, .res_2_E, .res_2_H, .res_2_L, .res_2_indHL, .res_2_A,
     .res_3_B, .res_3_C, .res_3_D, .res_3_E, .res_3_H, .res_3_L, .res_3_indHL, .res_3_A]

/-- R109, row Ax. -/
def cbRowA : Vector Instr 16 :=
  #v[.res_4_B, .res_4_C, .res_4_D, .res_4_E, .res_4_H, .res_4_L, .res_4_indHL, .res_4_A,
     .res_5_B, .res_5_C, .res_5_D, .res_5_E, .res_5_H, .res_5_L, .res_5_indHL, .res_5_A]

/-- R109, row Bx. -/
def cbRowB : Vector Instr 16 :=
  #v[.res_6_B, .res_6_C, .res_6_D, .res_6_E, .res_6_H, .res_6_L, .res_6_indHL, .res_6_A,
     .res_7_B, .res_7_C, .res_7_D, .res_7_E, .res_7_H, .res_7_L, .res_7_indHL, .res_7_A]

/-- R109, row Cx. -/
def cbRowC : Vector Instr 16 :=
  #v[.set_0_B, .set_0_C, .set_0_D, .set_0_E, .set_0_H, .set_0_L, .set_0_indHL, .set_0_A,
     .set_1_B, .set_1_C, .set_1_D, .set_1_E, .set_1_H, .set_1_L, .set_1_indHL, .set_1_A]

/-- R109, row Dx. -/
def cbRowD : Vector Instr 16 :=
  #v[.set_2_B, .set_2_C, .set_2_D, .set_2_E, .set_2_H, .set_2_L, .set_2_indHL, .set_2_A,
     .set_3_B, .set_3_C, .set_3_D, .set_3_E, .set_3_H, .set_3_L, .set_3_indHL, .set_3_A]

/-- R109, row Ex. -/
def cbRowE : Vector Instr 16 :=
  #v[.set_4_B, .set_4_C, .set_4_D, .set_4_E, .set_4_H, .set_4_L, .set_4_indHL, .set_4_A,
     .set_5_B, .set_5_C, .set_5_D, .set_5_E, .set_5_H, .set_5_L, .set_5_indHL, .set_5_A]

/-- R109, row Fx. -/
def cbRowF : Vector Instr 16 :=
  #v[.set_6_B, .set_6_C, .set_6_D, .set_6_E, .set_6_H, .set_6_L, .set_6_indHL, .set_6_A,
     .set_7_B, .set_7_C, .set_7_D, .set_7_E, .set_7_H, .set_7_L, .set_7_indHL, .set_7_A]

/-- The extended page (R109), by high nibble and low nibble of the byte after the prefix. -/
def cbPage : Vector (Vector Instr 16) 16 :=
  #v[cbRow0, cbRow1, cbRow2, cbRow3, cbRow4, cbRow5, cbRow6, cbRow7,
     cbRow8, cbRow9, cbRowA, cbRowB, cbRowC, cbRowD, cbRowE, cbRowF]

/-- The high nibble of a byte, as an index. -/
def highNibble (v : Byte) : Fin 16 := ⟨v.toNat / 16, by have := v.isLt; omega⟩

/-- The low nibble of a byte, as an index. -/
def lowNibble (v : Byte) : Fin 16 := ⟨v.toNat % 16, by omega⟩

/-- The entry of the unprefixed page for a first byte (R103, R108). -/
def entryOf (v : Byte) : Entry := (basePage.get (highNibble v)).get (lowNibble v)

/-- The instruction of the extended page for the byte after the prefix (R103, R109): all 256 are assigned. -/
def cbEntry (v : Byte) : Instr := (cbPage.get (highNibble v)).get (lowNibble v)

/-- Why a byte sequence decodes to no instruction. An unassigned code is not among these: it decodes to its
`illegal_` instruction, whose meaning is the fault of R114. -/
inductive DecodeError where
  /-- There is no byte at all. -/
  | noByte
  /-- The prefix 0xCB stands alone. -/
  | missingExtendedOpcode
  /-- The opcode's immediate byte is missing. -/
  | missingImmediate8
  /-- One of the opcode's two immediate bytes is missing. -/
  | missingImmediate16
  deriving DecidableEq, Repr

/-- The outcome of decoding: an instruction and the bytes after it, or a rejection by name. -/
inductive Decoded where
  | instr (i : Instr) (rest : List Byte)
  | rejected (e : DecodeError)
  deriving DecidableEq, Repr

/-- The decoder (R102, R103, R110, R112). -/
def decode : List Byte → Decoded
  | [] => .rejected .noByte
  | b0 :: rest =>
    match entryOf b0 with
    | .op i => .instr i rest
    | .opSkip i => .instr i rest.tail
    | .imm8 mk =>
      match rest with
      | n :: rest1 => .instr (mk n) rest1
      | [] => .rejected .missingImmediate8
    | .imm16 mk =>
      match rest with
      | lo :: hi :: rest2 => .instr (mk (joinBytes hi lo)) rest2
      | _ => .rejected .missingImmediate16
    | .cbPrefix =>
      match rest with
      | b1 :: rest1 => .instr (cbEntry b1) rest1
      | [] => .rejected .missingExtendedOpcode

/-! ## The operand codes of the encoding (R104 to R106) -/

/-- The code k of an 8-bit register in `r8[k]` (R104). -/
def Reg8.code : Reg8 → Nat
  | .b => 0
  | .c => 1
  | .d => 2
  | .e => 3
  | .h => 4
  | .l => 5
  | .a => 7

/-- The code k of an 8-bit operand: 6 is `(HL)` (R104). -/
def R8.code : R8 → Nat
  | .reg r => r.code
  | .indHL => 6

/-- The code p of a pair in `rp[p]` (R105). -/
def Pair.code : Pair → Nat
  | .bc => 0
  | .de => 1
  | .hl => 2
  | .sp => 3

/-- The code p of a pair in `rp2[p]` (R105). -/
def StackPair.code : StackPair → Nat
  | .bc => 0
  | .de => 1
  | .hl => 2
  | .af => 3

/-- The code of BC or DE as an address pair (spec/41_loads.md R155, R156). -/
def AddrPair.code : AddrPair → Nat
  | .bc => 0
  | .de => 1

/-- The code c of a condition in `cc[c]` (R105). -/
def Cond.code : Cond → Nat
  | .nz => 0
  | .z => 1
  | .nc => 2
  | .c => 3

/-- The field y of an accumulator operation (R106). -/
def AluOp.code : AluOp → Nat
  | .add => 0
  | .adc => 1
  | .sub => 2
  | .sbc => 3
  | .and => 4
  | .xor => 5
  | .or => 6
  | .cp => 7

/-- The field y of a rotate or shift (R106). -/
def RotOp.code : RotOp → Nat
  | .rlc => 0
  | .rrc => 1
  | .rl => 2
  | .rr => 3
  | .sla => 4
  | .sra => 5
  | .swap => 6
  | .srl => 7

/-! ## The encoder -/

/-- The bytes of an instruction, first byte first (R107, the `encoding` column of spec/opcode_table.json). STOP's
second byte, which is never read, is written as 0x00 (log entry 16). -/
def Instr.encode : Instr → List Byte
  | .nop => [0x00]
  | .ld_BC_n16 n => [0x01, loByte n, hiByte n]
  | .ld_indBC_A => [0x02]
  | .inc_BC => [0x03]
  | .inc_B => [0x04]
  | .dec_B => [0x05]
  | .ld_B_n8 n => [0x06, n]
  | .rlca => [0x07]
  | .ld_indN16_SP n => [0x08, loByte n, hiByte n]
  | .add_HL_BC => [0x09]
  | .ld_A_indBC => [0x0A]
  | .dec_BC => [0x0B]
  | .inc_C => [0x0C]
  | .dec_C => [0x0D]
  | .ld_C_n8 n => [0x0E, n]
  | .rrca => [0x0F]
  | .stop => [0x10, 0x00]
  | .ld_DE_n16 n => [0x11, loByte n, hiByte n]
  | .ld_indDE_A => [0x12]
  | .inc_DE => [0x13]
  | .inc_D => [0x14]
  | .dec_D => [0x15]
  | .ld_D_n8 n => [0x16, n]
  | .rla => [0x17]
  | .jr_e8 e => [0x18, e]
  | .add_HL_DE => [0x19]
  | .ld_A_indDE => [0x1A]
  | .dec_DE => [0x1B]
  | .inc_E => [0x1C]
  | .dec_E => [0x1D]
  | .ld_E_n8 n => [0x1E, n]
  | .rra => [0x1F]
  | .jr_NZ_e8 e => [0x20, e]
  | .ld_HL_n16 n => [0x21, loByte n, hiByte n]
  | .ld_indHLinc_A => [0x22]
  | .inc_HL => [0x23]
  | .inc_H => [0x24]
  | .dec_H => [0x25]
  | .ld_H_n8 n => [0x26, n]
  | .daa => [0x27]
  | .jr_Z_e8 e => [0x28, e]
  | .add_HL_HL => [0x29]
  | .ld_A_indHLinc => [0x2A]
  | .dec_HL => [0x2B]
  | .inc_L => [0x2C]
  | .dec_L => [0x2D]
  | .ld_L_n8 n => [0x2E, n]
  | .cpl => [0x2F]
  | .jr_NC_e8 e => [0x30, e]
  | .ld_SP_n16 n => [0x31, loByte n, hiByte n]
  | .ld_indHLdec_A => [0x32]
  | .inc_SP => [0x33]
  | .inc_indHL => [0x34]
  | .dec_indHL => [0x35]
  | .ld_indHL_n8 n => [0x36, n]
  | .scf => [0x37]
  | .jr_C_e8 e => [0x38, e]
  | .add_HL_SP => [0x39]
  | .ld_A_indHLdec => [0x3A]
  | .dec_SP => [0x3B]
  | .inc_A => [0x3C]
  | .dec_A => [0x3D]
  | .ld_A_n8 n => [0x3E, n]
  | .ccf => [0x3F]
  | .ld_B_B => [0x40]
  | .ld_B_C => [0x41]
  | .ld_B_D => [0x42]
  | .ld_B_E => [0x43]
  | .ld_B_H => [0x44]
  | .ld_B_L => [0x45]
  | .ld_B_indHL => [0x46]
  | .ld_B_A => [0x47]
  | .ld_C_B => [0x48]
  | .ld_C_C => [0x49]
  | .ld_C_D => [0x4A]
  | .ld_C_E => [0x4B]
  | .ld_C_H => [0x4C]
  | .ld_C_L => [0x4D]
  | .ld_C_indHL => [0x4E]
  | .ld_C_A => [0x4F]
  | .ld_D_B => [0x50]
  | .ld_D_C => [0x51]
  | .ld_D_D => [0x52]
  | .ld_D_E => [0x53]
  | .ld_D_H => [0x54]
  | .ld_D_L => [0x55]
  | .ld_D_indHL => [0x56]
  | .ld_D_A => [0x57]
  | .ld_E_B => [0x58]
  | .ld_E_C => [0x59]
  | .ld_E_D => [0x5A]
  | .ld_E_E => [0x5B]
  | .ld_E_H => [0x5C]
  | .ld_E_L => [0x5D]
  | .ld_E_indHL => [0x5E]
  | .ld_E_A => [0x5F]
  | .ld_H_B => [0x60]
  | .ld_H_C => [0x61]
  | .ld_H_D => [0x62]
  | .ld_H_E => [0x63]
  | .ld_H_H => [0x64]
  | .ld_H_L => [0x65]
  | .ld_H_indHL => [0x66]
  | .ld_H_A => [0x67]
  | .ld_L_B => [0x68]
  | .ld_L_C => [0x69]
  | .ld_L_D => [0x6A]
  | .ld_L_E => [0x6B]
  | .ld_L_H => [0x6C]
  | .ld_L_L => [0x6D]
  | .ld_L_indHL => [0x6E]
  | .ld_L_A => [0x6F]
  | .ld_indHL_B => [0x70]
  | .ld_indHL_C => [0x71]
  | .ld_indHL_D => [0x72]
  | .ld_indHL_E => [0x73]
  | .ld_indHL_H => [0x74]
  | .ld_indHL_L => [0x75]
  | .halt => [0x76]
  | .ld_indHL_A => [0x77]
  | .ld_A_B => [0x78]
  | .ld_A_C => [0x79]
  | .ld_A_D => [0x7A]
  | .ld_A_E => [0x7B]
  | .ld_A_H => [0x7C]
  | .ld_A_L => [0x7D]
  | .ld_A_indHL => [0x7E]
  | .ld_A_A => [0x7F]
  | .add_A_B => [0x80]
  | .add_A_C => [0x81]
  | .add_A_D => [0x82]
  | .add_A_E => [0x83]
  | .add_A_H => [0x84]
  | .add_A_L => [0x85]
  | .add_A_indHL => [0x86]
  | .add_A_A => [0x87]
  | .adc_A_B => [0x88]
  | .adc_A_C => [0x89]
  | .adc_A_D => [0x8A]
  | .adc_A_E => [0x8B]
  | .adc_A_H => [0x8C]
  | .adc_A_L => [0x8D]
  | .adc_A_indHL => [0x8E]
  | .adc_A_A => [0x8F]
  | .sub_B => [0x90]
  | .sub_C => [0x91]
  | .sub_D => [0x92]
  | .sub_E => [0x93]
  | .sub_H => [0x94]
  | .sub_L => [0x95]
  | .sub_indHL => [0x96]
  | .sub_A => [0x97]
  | .sbc_A_B => [0x98]
  | .sbc_A_C => [0x99]
  | .sbc_A_D => [0x9A]
  | .sbc_A_E => [0x9B]
  | .sbc_A_H => [0x9C]
  | .sbc_A_L => [0x9D]
  | .sbc_A_indHL => [0x9E]
  | .sbc_A_A => [0x9F]
  | .and_B => [0xA0]
  | .and_C => [0xA1]
  | .and_D => [0xA2]
  | .and_E => [0xA3]
  | .and_H => [0xA4]
  | .and_L => [0xA5]
  | .and_indHL => [0xA6]
  | .and_A => [0xA7]
  | .xor_B => [0xA8]
  | .xor_C => [0xA9]
  | .xor_D => [0xAA]
  | .xor_E => [0xAB]
  | .xor_H => [0xAC]
  | .xor_L => [0xAD]
  | .xor_indHL => [0xAE]
  | .xor_A => [0xAF]
  | .or_B => [0xB0]
  | .or_C => [0xB1]
  | .or_D => [0xB2]
  | .or_E => [0xB3]
  | .or_H => [0xB4]
  | .or_L => [0xB5]
  | .or_indHL => [0xB6]
  | .or_A => [0xB7]
  | .cp_B => [0xB8]
  | .cp_C => [0xB9]
  | .cp_D => [0xBA]
  | .cp_E => [0xBB]
  | .cp_H => [0xBC]
  | .cp_L => [0xBD]
  | .cp_indHL => [0xBE]
  | .cp_A => [0xBF]
  | .ret_NZ => [0xC0]
  | .pop_BC => [0xC1]
  | .jp_NZ_n16 n => [0xC2, loByte n, hiByte n]
  | .jp_n16 n => [0xC3, loByte n, hiByte n]
  | .call_NZ_n16 n => [0xC4, loByte n, hiByte n]
  | .push_BC => [0xC5]
  | .add_A_n8 n => [0xC6, n]
  | .rst_00 => [0xC7]
  | .ret_Z => [0xC8]
  | .ret => [0xC9]
  | .jp_Z_n16 n => [0xCA, loByte n, hiByte n]
  | .call_Z_n16 n => [0xCC, loByte n, hiByte n]
  | .call_n16 n => [0xCD, loByte n, hiByte n]
  | .adc_A_n8 n => [0xCE, n]
  | .rst_08 => [0xCF]
  | .ret_NC => [0xD0]
  | .pop_DE => [0xD1]
  | .jp_NC_n16 n => [0xD2, loByte n, hiByte n]
  | .call_NC_n16 n => [0xD4, loByte n, hiByte n]
  | .push_DE => [0xD5]
  | .sub_n8 n => [0xD6, n]
  | .rst_10 => [0xD7]
  | .ret_C => [0xD8]
  | .reti => [0xD9]
  | .jp_C_n16 n => [0xDA, loByte n, hiByte n]
  | .call_C_n16 n => [0xDC, loByte n, hiByte n]
  | .sbc_A_n8 n => [0xDE, n]
  | .rst_18 => [0xDF]
  | .ldh_indN8_A n => [0xE0, n]
  | .pop_HL => [0xE1]
  | .ld_indC_A => [0xE2]
  | .push_HL => [0xE5]
  | .and_n8 n => [0xE6, n]
  | .rst_20 => [0xE7]
  | .add_SP_e8 e => [0xE8, e]
  | .jp_HL => [0xE9]
  | .ld_indN16_A n => [0xEA, loByte n, hiByte n]
  | .xor_n8 n => [0xEE, n]
  | .rst_28 => [0xEF]
  | .ldh_A_indN8 n => [0xF0, n]
  | .pop_AF => [0xF1]
  | .ld_A_indC => [0xF2]
  | .di => [0xF3]
  | .push_AF => [0xF5]
  | .or_n8 n => [0xF6, n]
  | .rst_30 => [0xF7]
  | .ld_HL_SPe8 e => [0xF8, e]
  | .ld_SP_HL => [0xF9]
  | .ld_A_indN16 n => [0xFA, loByte n, hiByte n]
  | .ei => [0xFB]
  | .cp_n8 n => [0xFE, n]
  | .rst_38 => [0xFF]
  | .rlc_B => [0xCB, 0x00]
  | .rlc_C => [0xCB, 0x01]
  | .rlc_D => [0xCB, 0x02]
  | .rlc_E => [0xCB, 0x03]
  | .rlc_H => [0xCB, 0x04]
  | .rlc_L => [0xCB, 0x05]
  | .rlc_indHL => [0xCB, 0x06]
  | .rlc_A => [0xCB, 0x07]
  | .rrc_B => [0xCB, 0x08]
  | .rrc_C => [0xCB, 0x09]
  | .rrc_D => [0xCB, 0x0A]
  | .rrc_E => [0xCB, 0x0B]
  | .rrc_H => [0xCB, 0x0C]
  | .rrc_L => [0xCB, 0x0D]
  | .rrc_indHL => [0xCB, 0x0E]
  | .rrc_A => [0xCB, 0x0F]
  | .rl_B => [0xCB, 0x10]
  | .rl_C => [0xCB, 0x11]
  | .rl_D => [0xCB, 0x12]
  | .rl_E => [0xCB, 0x13]
  | .rl_H => [0xCB, 0x14]
  | .rl_L => [0xCB, 0x15]
  | .rl_indHL => [0xCB, 0x16]
  | .rl_A => [0xCB, 0x17]
  | .rr_B => [0xCB, 0x18]
  | .rr_C => [0xCB, 0x19]
  | .rr_D => [0xCB, 0x1A]
  | .rr_E => [0xCB, 0x1B]
  | .rr_H => [0xCB, 0x1C]
  | .rr_L => [0xCB, 0x1D]
  | .rr_indHL => [0xCB, 0x1E]
  | .rr_A => [0xCB, 0x1F]
  | .sla_B => [0xCB, 0x20]
  | .sla_C => [0xCB, 0x21]
  | .sla_D => [0xCB, 0x22]
  | .sla_E => [0xCB, 0x23]
  | .sla_H => [0xCB, 0x24]
  | .sla_L => [0xCB, 0x25]
  | .sla_indHL => [0xCB, 0x26]
  | .sla_A => [0xCB, 0x27]
  | .sra_B => [0xCB, 0x28]
  | .sra_C => [0xCB, 0x29]
  | .sra_D => [0xCB, 0x2A]
  | .sra_E => [0xCB, 0x2B]
  | .sra_H => [0xCB, 0x2C]
  | .sra_L => [0xCB, 0x2D]
  | .sra_indHL => [0xCB, 0x2E]
  | .sra_A => [0xCB, 0x2F]
  | .swap_B => [0xCB, 0x30]
  | .swap_C => [0xCB, 0x31]
  | .swap_D => [0xCB, 0x32]
  | .swap_E => [0xCB, 0x33]
  | .swap_H => [0xCB, 0x34]
  | .swap_L => [0xCB, 0x35]
  | .swap_indHL => [0xCB, 0x36]
  | .swap_A => [0xCB, 0x37]
  | .srl_B => [0xCB, 0x38]
  | .srl_C => [0xCB, 0x39]
  | .srl_D => [0xCB, 0x3A]
  | .srl_E => [0xCB, 0x3B]
  | .srl_H => [0xCB, 0x3C]
  | .srl_L => [0xCB, 0x3D]
  | .srl_indHL => [0xCB, 0x3E]
  | .srl_A => [0xCB, 0x3F]
  | .bit_0_B => [0xCB, 0x40]
  | .bit_0_C => [0xCB, 0x41]
  | .bit_0_D => [0xCB, 0x42]
  | .bit_0_E => [0xCB, 0x43]
  | .bit_0_H => [0xCB, 0x44]
  | .bit_0_L => [0xCB, 0x45]
  | .bit_0_indHL => [0xCB, 0x46]
  | .bit_0_A => [0xCB, 0x47]
  | .bit_1_B => [0xCB, 0x48]
  | .bit_1_C => [0xCB, 0x49]
  | .bit_1_D => [0xCB, 0x4A]
  | .bit_1_E => [0xCB, 0x4B]
  | .bit_1_H => [0xCB, 0x4C]
  | .bit_1_L => [0xCB, 0x4D]
  | .bit_1_indHL => [0xCB, 0x4E]
  | .bit_1_A => [0xCB, 0x4F]
  | .bit_2_B => [0xCB, 0x50]
  | .bit_2_C => [0xCB, 0x51]
  | .bit_2_D => [0xCB, 0x52]
  | .bit_2_E => [0xCB, 0x53]
  | .bit_2_H => [0xCB, 0x54]
  | .bit_2_L => [0xCB, 0x55]
  | .bit_2_indHL => [0xCB, 0x56]
  | .bit_2_A => [0xCB, 0x57]
  | .bit_3_B => [0xCB, 0x58]
  | .bit_3_C => [0xCB, 0x59]
  | .bit_3_D => [0xCB, 0x5A]
  | .bit_3_E => [0xCB, 0x5B]
  | .bit_3_H => [0xCB, 0x5C]
  | .bit_3_L => [0xCB, 0x5D]
  | .bit_3_indHL => [0xCB, 0x5E]
  | .bit_3_A => [0xCB, 0x5F]
  | .bit_4_B => [0xCB, 0x60]
  | .bit_4_C => [0xCB, 0x61]
  | .bit_4_D => [0xCB, 0x62]
  | .bit_4_E => [0xCB, 0x63]
  | .bit_4_H => [0xCB, 0x64]
  | .bit_4_L => [0xCB, 0x65]
  | .bit_4_indHL => [0xCB, 0x66]
  | .bit_4_A => [0xCB, 0x67]
  | .bit_5_B => [0xCB, 0x68]
  | .bit_5_C => [0xCB, 0x69]
  | .bit_5_D => [0xCB, 0x6A]
  | .bit_5_E => [0xCB, 0x6B]
  | .bit_5_H => [0xCB, 0x6C]
  | .bit_5_L => [0xCB, 0x6D]
  | .bit_5_indHL => [0xCB, 0x6E]
  | .bit_5_A => [0xCB, 0x6F]
  | .bit_6_B => [0xCB, 0x70]
  | .bit_6_C => [0xCB, 0x71]
  | .bit_6_D => [0xCB, 0x72]
  | .bit_6_E => [0xCB, 0x73]
  | .bit_6_H => [0xCB, 0x74]
  | .bit_6_L => [0xCB, 0x75]
  | .bit_6_indHL => [0xCB, 0x76]
  | .bit_6_A => [0xCB, 0x77]
  | .bit_7_B => [0xCB, 0x78]
  | .bit_7_C => [0xCB, 0x79]
  | .bit_7_D => [0xCB, 0x7A]
  | .bit_7_E => [0xCB, 0x7B]
  | .bit_7_H => [0xCB, 0x7C]
  | .bit_7_L => [0xCB, 0x7D]
  | .bit_7_indHL => [0xCB, 0x7E]
  | .bit_7_A => [0xCB, 0x7F]
  | .res_0_B => [0xCB, 0x80]
  | .res_0_C => [0xCB, 0x81]
  | .res_0_D => [0xCB, 0x82]
  | .res_0_E => [0xCB, 0x83]
  | .res_0_H => [0xCB, 0x84]
  | .res_0_L => [0xCB, 0x85]
  | .res_0_indHL => [0xCB, 0x86]
  | .res_0_A => [0xCB, 0x87]
  | .res_1_B => [0xCB, 0x88]
  | .res_1_C => [0xCB, 0x89]
  | .res_1_D => [0xCB, 0x8A]
  | .res_1_E => [0xCB, 0x8B]
  | .res_1_H => [0xCB, 0x8C]
  | .res_1_L => [0xCB, 0x8D]
  | .res_1_indHL => [0xCB, 0x8E]
  | .res_1_A => [0xCB, 0x8F]
  | .res_2_B => [0xCB, 0x90]
  | .res_2_C => [0xCB, 0x91]
  | .res_2_D => [0xCB, 0x92]
  | .res_2_E => [0xCB, 0x93]
  | .res_2_H => [0xCB, 0x94]
  | .res_2_L => [0xCB, 0x95]
  | .res_2_indHL => [0xCB, 0x96]
  | .res_2_A => [0xCB, 0x97]
  | .res_3_B => [0xCB, 0x98]
  | .res_3_C => [0xCB, 0x99]
  | .res_3_D => [0xCB, 0x9A]
  | .res_3_E => [0xCB, 0x9B]
  | .res_3_H => [0xCB, 0x9C]
  | .res_3_L => [0xCB, 0x9D]
  | .res_3_indHL => [0xCB, 0x9E]
  | .res_3_A => [0xCB, 0x9F]
  | .res_4_B => [0xCB, 0xA0]
  | .res_4_C => [0xCB, 0xA1]
  | .res_4_D => [0xCB, 0xA2]
  | .res_4_E => [0xCB, 0xA3]
  | .res_4_H => [0xCB, 0xA4]
  | .res_4_L => [0xCB, 0xA5]
  | .res_4_indHL => [0xCB, 0xA6]
  | .res_4_A => [0xCB, 0xA7]
  | .res_5_B => [0xCB, 0xA8]
  | .res_5_C => [0xCB, 0xA9]
  | .res_5_D => [0xCB, 0xAA]
  | .res_5_E => [0xCB, 0xAB]
  | .res_5_H => [0xCB, 0xAC]
  | .res_5_L => [0xCB, 0xAD]
  | .res_5_indHL => [0xCB, 0xAE]
  | .res_5_A => [0xCB, 0xAF]
  | .res_6_B => [0xCB, 0xB0]
  | .res_6_C => [0xCB, 0xB1]
  | .res_6_D => [0xCB, 0xB2]
  | .res_6_E => [0xCB, 0xB3]
  | .res_6_H => [0xCB, 0xB4]
  | .res_6_L => [0xCB, 0xB5]
  | .res_6_indHL => [0xCB, 0xB6]
  | .res_6_A => [0xCB, 0xB7]
  | .res_7_B => [0xCB, 0xB8]
  | .res_7_C => [0xCB, 0xB9]
  | .res_7_D => [0xCB, 0xBA]
  | .res_7_E => [0xCB, 0xBB]
  | .res_7_H => [0xCB, 0xBC]
  | .res_7_L => [0xCB, 0xBD]
  | .res_7_indHL => [0xCB, 0xBE]
  | .res_7_A => [0xCB, 0xBF]
  | .set_0_B => [0xCB, 0xC0]
  | .set_0_C => [0xCB, 0xC1]
  | .set_0_D => [0xCB, 0xC2]
  | .set_0_E => [0xCB, 0xC3]
  | .set_0_H => [0xCB, 0xC4]
  | .set_0_L => [0xCB, 0xC5]
  | .set_0_indHL => [0xCB, 0xC6]
  | .set_0_A => [0xCB, 0xC7]
  | .set_1_B => [0xCB, 0xC8]
  | .set_1_C => [0xCB, 0xC9]
  | .set_1_D => [0xCB, 0xCA]
  | .set_1_E => [0xCB, 0xCB]
  | .set_1_H => [0xCB, 0xCC]
  | .set_1_L => [0xCB, 0xCD]
  | .set_1_indHL => [0xCB, 0xCE]
  | .set_1_A => [0xCB, 0xCF]
  | .set_2_B => [0xCB, 0xD0]
  | .set_2_C => [0xCB, 0xD1]
  | .set_2_D => [0xCB, 0xD2]
  | .set_2_E => [0xCB, 0xD3]
  | .set_2_H => [0xCB, 0xD4]
  | .set_2_L => [0xCB, 0xD5]
  | .set_2_indHL => [0xCB, 0xD6]
  | .set_2_A => [0xCB, 0xD7]
  | .set_3_B => [0xCB, 0xD8]
  | .set_3_C => [0xCB, 0xD9]
  | .set_3_D => [0xCB, 0xDA]
  | .set_3_E => [0xCB, 0xDB]
  | .set_3_H => [0xCB, 0xDC]
  | .set_3_L => [0xCB, 0xDD]
  | .set_3_indHL => [0xCB, 0xDE]
  | .set_3_A => [0xCB, 0xDF]
  | .set_4_B => [0xCB, 0xE0]
  | .set_4_C => [0xCB, 0xE1]
  | .set_4_D => [0xCB, 0xE2]
  | .set_4_E => [0xCB, 0xE3]
  | .set_4_H => [0xCB, 0xE4]
  | .set_4_L => [0xCB, 0xE5]
  | .set_4_indHL => [0xCB, 0xE6]
  | .set_4_A => [0xCB, 0xE7]
  | .set_5_B => [0xCB, 0xE8]
  | .set_5_C => [0xCB, 0xE9]
  | .set_5_D => [0xCB, 0xEA]
  | .set_5_E => [0xCB, 0xEB]
  | .set_5_H => [0xCB, 0xEC]
  | .set_5_L => [0xCB, 0xED]
  | .set_5_indHL => [0xCB, 0xEE]
  | .set_5_A => [0xCB, 0xEF]
  | .set_6_B => [0xCB, 0xF0]
  | .set_6_C => [0xCB, 0xF1]
  | .set_6_D => [0xCB, 0xF2]
  | .set_6_E => [0xCB, 0xF3]
  | .set_6_H => [0xCB, 0xF4]
  | .set_6_L => [0xCB, 0xF5]
  | .set_6_indHL => [0xCB, 0xF6]
  | .set_6_A => [0xCB, 0xF7]
  | .set_7_B => [0xCB, 0xF8]
  | .set_7_C => [0xCB, 0xF9]
  | .set_7_D => [0xCB, 0xFA]
  | .set_7_E => [0xCB, 0xFB]
  | .set_7_H => [0xCB, 0xFC]
  | .set_7_L => [0xCB, 0xFD]
  | .set_7_indHL => [0xCB, 0xFE]
  | .set_7_A => [0xCB, 0xFF]
  | .illegal_D3 => [0xD3]
  | .illegal_DB => [0xDB]
  | .illegal_DD => [0xDD]
  | .illegal_E3 => [0xE3]
  | .illegal_E4 => [0xE4]
  | .illegal_EB => [0xEB]
  | .illegal_EC => [0xEC]
  | .illegal_ED => [0xED]
  | .illegal_F4 => [0xF4]
  | .illegal_FC => [0xFC]
  | .illegal_FD => [0xFD]

/-- The length of an instruction in bytes (R107, R112). -/
def Instr.length (i : Instr) : Nat := i.encode.length

/-- The encoder. -/
def encode (i : Instr) : List Byte := i.encode

/-! ## The numbering of spec/opcode_table.json -/

/-- The bytes of an instruction whose bits are w. A row of the unprefixed page has its first byte in bits 7..0, the
second in bits 15..8, and so on. A row of the extended page is written in the table as the one number 0xCB00 + b
(`match` 0xCB00 to 0xCBFF), so a 16-bit w whose high byte is 0xCB is the bytes 0xCB, b (log entry 9). The bits above
nbits are 0. -/
def tableBytes (nbits w : Nat) : List Byte :=
  let v := w % 2 ^ nbits
  if nbits = 16 ∧ v / 256 = 0xCB then [0xCB, BitVec.ofNat 8 v, 0x00]
  else [BitVec.ofNat 8 v, BitVec.ofNat 8 (v / 256), BitVec.ofNat 8 (v / 65536)]

/-- The instruction that the decoder reads from those bytes. -/
def decodeTableWord (nbits w : Nat) : Option Instr :=
  match decode (tableBytes nbits w) with
  | .instr i _ => some i
  | .rejected _ => none

end Sys2Proof
end

