-- ==== Sys2Proof/Config.lean ====
section
/-! DEFINITION. What an implementation fixes: the named parameters of spec/00_scope.md R8, and the free value
`ExtRead`. The default of each parameter is in Machine/Defaults.lean; log entry 6 says why State carries them. -/

namespace Sys2Proof

/-- What a COMBO write to 0x6000–0x7FFF does to the mode (R8 `MODE_WRITE_POLICY`, R69). -/
inductive ModeWritePolicy where
  | toggle
  | setBit0
  deriving DecidableEq, Repr

/-- What a write to the divider register does (R8 `DIV_WRITE`, R313). -/
inductive DivWrite where
  | reset
  | store
  deriving DecidableEq, Repr

/-- `RAM_INIT` (R8): the initial contents of work RAM, high RAM, IE and cartridge RAM. Each list gives the bytes from
offset 0 up; a byte past its end is 0x00, and bytes past the size of the array are not used (log entry 8). -/
structure RamInit where
  wram : List Byte
  hram : List Byte
  ie : Byte
  cram : List Byte
  deriving DecidableEq, Repr

/-- The parameters of R8. `ROM`, `VARIANT` and `RAM_SIZE` belong to the cartridge, which State holds; `ExtRead` is
the free value below. -/
structure Config where
  /-- `RAM_ENABLE_SENTINEL`: the byte that enables cartridge RAM. -/
  ramEnableSentinel : Byte
  /-- `MODE_WRITE_POLICY`. -/
  modeWritePolicy : ModeWritePolicy
  /-- `MBC2_SELECT_BIT`: the address bit that selects the RAMONLY control register (0, alternative 8). -/
  mbc2SelectBit : Nat
  /-- `RAM_SIZE_TABLE`: header code to cartridge RAM byte count; a code it does not list means 0. -/
  ramSizeTable : List (Byte × Nat)
  /-- `MBC2_RAM_SIZE`: the RAMONLY RAM byte count. -/
  mbc2RamSize : Nat
  /-- `STACK_LO`: lower end of the stack window, inclusive. -/
  stackLo : Word
  /-- `STACK_HI`: upper end of the stack window, inclusive. -/
  stackHi : Word
  /-- `CYCLES`: the entries in which the cycle table is not the default one, that of spec/opcode_table.json. The key
  is the numeric code (0xCB00 + b on the extended page) and whether the taken or the not-taken count is meant; the
  default count of a code stands in that instruction's meaning. Any table can be given so (log entry 6). -/
  cycles : List ((Nat × Bool) × Nat)
  /-- `DIV_WRITE`. -/
  divWrite : DivWrite
  /-- `LOGO`: the 48-byte reference sequence of the cartridge header. -/
  logo : List Byte
  /-- `RAM_INIT`. -/
  ramInit : RamInit
  deriving DecidableEq, Repr

/-- FREE VALUE (log entry 4). `ExtRead` of R8 and R57: the byte that the n-th read of an external collaborator
gives, for a read of address a. "An unconstrained draw, any byte, independent of earlier writes": it has no body,
so no proof can see a value of it. n counts the draws, so two reads of one address are two draws. -/
opaque Config.extRead : Nat → Word → Byte

end Sys2Proof
end

