-- ==== Sys2Proof/Machine/Defaults.lean ====
section
/-! DEFINITION. The default of each parameter of spec/00_scope.md R8 (Default column). -/

namespace Sys2Proof.Machine

/-- `LOGO` (spec/70_reset_and_hazards.md R344), its first 16 bytes. -/
def defaultLogoA : List Byte :=
  [0xCE, 0xED, 0x66, 0x66, 0xCC, 0x0D, 0x00, 0x0B, 0x03, 0x73, 0x00, 0x83, 0x00, 0x0C, 0x00, 0x0D]

/-- `LOGO`, its second 16 bytes. -/
def defaultLogoB : List Byte :=
  [0x00, 0x08, 0x11, 0x1F, 0x88, 0x89, 0x00, 0x0E, 0xDC, 0xCC, 0x6E, 0xE6, 0xDD, 0xDD, 0xD9, 0x99]

/-- `LOGO`, its last 16 bytes. -/
def defaultLogoC : List Byte :=
  [0xBB, 0xBB, 0x67, 0x63, 0x6E, 0x0E, 0xEC, 0xCC, 0xDD, 0xDC, 0x99, 0x9F, 0xBB, 0xB9, 0x33, 0x3E]

/-- The defaults of R8. -/
def defaultConfig : Config where
  ramEnableSentinel := 0x0A
  modeWritePolicy := .toggle
  mbc2SelectBit := 0
  ramSizeTable := [(0x02, 0x2000), (0x03, 0x8000), (0x04, 0x20000), (0x05, 0x4000)]
  mbc2RamSize := 0x200
  stackLo := 0xFF80
  stackHi := 0xFFFE
  cycles := []
  divWrite := .reset
  logo := defaultLogoA ++ defaultLogoB ++ defaultLogoC
  ramInit := { wram := [], hram := [], ie := 0x00, cram := [] }

end Sys2Proof.Machine
end

