-- ==== Sys2Proof/Machine/Memory.lean ====
section
/-! DEFINITION. A byte array as plain data: a list of (index, byte) pairs in one canonical form, indexes strictly
rising and no entry equal to what an unlisted index reads as. Work RAM, high RAM, cartridge RAM and ROM are each
one of these (spec/10_state.md R30, R31). -/

namespace Sys2Proof.Machine

/-- A sparse byte array. -/
abbrev Memory := List Host.Cell

/-- What an unlisted index reads as: 0x00, the byte of the default `RAM_INIT` (spec/00_scope.md R8, spec/10_state.md
R40; log entry 8). -/
def Memory.unlisted : Byte := 0x00#8

/-- The byte at an index. -/
def Memory.read : Memory → Nat → Byte
  | [], _ => Memory.unlisted
  | (k, w) :: rest, i => if i = k then w else Memory.read rest i

/-- Put a byte in front, or nothing where it is the unlisted byte. -/
def Memory.consCell (i : Nat) (v : Byte) (rest : Memory) : Memory :=
  if v = Memory.unlisted then rest else (i, v) :: rest

/-- Write one byte, keeping the canonical form. -/
def Memory.write : Memory → Nat → Byte → Memory
  | [], i, v => Memory.consCell i v []
  | (k, w) :: rest, i, v =>
    if i < k then Memory.consCell i v ((k, w) :: rest)
    else if i = k then Memory.consCell i v rest
    else (k, w) :: Memory.write rest i v

/-- The canonical form: indexes strictly rising, no entry equal to the unlisted byte. -/
def Memory.wf (m : Memory) : Bool :=
  decide (m.Pairwise fun x y => x.1 < y.1) && m.all fun x => x.2 != Memory.unlisted

/-- Every listed index lies below n. -/
def Memory.below (n : Nat) (m : Memory) : Bool := m.all fun x => decide (x.1 < n)

/-- The bytes bs from index i up. -/
def Memory.ofBytesAt : Nat → List Byte → Memory
  | _, [] => []
  | i, v :: rest => Memory.consCell i v (Memory.ofBytesAt (i + 1) rest)

/-- The byte array that a byte sequence is. -/
def Memory.ofBytes (bs : List Byte) : Memory := Memory.ofBytesAt 0 bs

/-- The first n bytes of an array. -/
def Memory.toBytes (m : Memory) (n : Nat) : List Byte := (List.range n).map fun i => Memory.read m i

/-- Write the bytes bs from index i up. -/
def Memory.writeBytes : Memory → Nat → List Byte → Memory
  | m, _, [] => m
  | m, i, v :: rest => Memory.writeBytes (Memory.write m i v) (i + 1) rest

end Sys2Proof.Machine
end

