-- ==== Sys2Proof/Machine/State.lean ====
section
/-! DEFINITION. Everything the spec gives the machine (spec/10_state.md), as plain data; the reasons a step can
stop; and the state at reset. -/

namespace Sys2Proof.Machine

/-- The kind of a faulting Bus access (spec/60_exceptions.md R300): a fetch, an immediate, a data read or a pop is
a read. -/
inductive AccessKind where
  | read
  | write
  deriving DecidableEq, Repr

/-- A fault of R300 with its recorded info: what `status` holds after it. -/
inductive FaultInfo where
  /-- Decode finds no descriptor for the fetched code: addr is the instruction's first byte, code the 16-bit code. -/
  | illegalOpcode (addr : Word) (code : Word)
  /-- A Bus access to a prohibited region. -/
  | prohibitedAccess (addr : Word) (kind : AccessKind)
  /-- SP outside the stack window after a stack move. -/
  | stackFault (sp : Word)
  deriving DecidableEq, Repr

/-- Why a run ended without a fault (R29). -/
inductive StopReason where
  | halt
  | stop
  deriving DecidableEq, Repr

/-- The run status (R29). -/
inductive Status where
  | running
  | stopped (r : StopReason)
  | faulted (f : FaultInfo)
  deriving DecidableEq, Repr

/-- The COMBO mode flag (R33). -/
inductive BankMode where
  | rom
  | ram
  deriving DecidableEq, Repr

/-- The COMBO controller's registers (R33). -/
structure ComboRegs where
  ramEnabled : Bool
  romBank : BitVec 7
  ramBank : BitVec 2
  mode : BankMode
  deriving DecidableEq, Repr

/-- The RAMONLY controller's registers (R34). -/
structure RamonlyRegs where
  ramEnabled : Bool
  romBank : BitVec 4
  deriving DecidableEq, Repr

/-- The one active bank controller and its registers (R31): NONE has none (R63). -/
inductive Controller where
  | none
  | combo (r : ComboRegs)
  | ramonly (r : RamonlyRegs)
  deriving DecidableEq, Repr

/-- COMBO at reset (R33, R40). -/
def ComboRegs.reset : ComboRegs where
  ramEnabled := false
  romBank := 1
  ramBank := 0
  mode := .rom

/-- RAMONLY at reset (R34, R40). -/
def RamonlyRegs.reset : RamonlyRegs where
  ramEnabled := false
  romBank := 1

/-- The cartridge: the bytes the controller owns and the controller (R31). `romSize` is the length of ROM,
`ramSize` the parameter RAM_SIZE. -/
structure Cart where
  rom : Memory
  romSize : Nat
  cram : Memory
  ramSize : Nat
  ctrl : Controller
  deriving DecidableEq, Repr

/-- No cartridge bytes under the NONE controller: `loadAndRun` of the empty program (R350; log entry 7). -/
def Cart.empty : Cart where
  rom := []
  romSize := 0
  cram := []
  ramSize := 0
  ctrl := .none

/-- The timer (R35): four registers, two accumulators and the pending-interrupt bit. -/
structure Timer where
  div : Byte
  tima : Byte
  tma : Byte
  tac : Byte
  divAcc : Nat
  timaAcc : Nat
  irq : Bool
  deriving DecidableEq, Repr

/-- The timer at reset (R35, R40). -/
def Timer.reset : Timer where
  div := 0
  tima := 0
  tma := 0
  tac := 0
  divAcc := 0
  timaAcc := 0
  irq := false

/-- One recorded `ExtWrite(addr, v)` event (spec/20_memory.md R57). -/
structure ExtWrite where
  addr : Word
  value : Byte
  deriving DecidableEq, Repr

/-- The machine's state. -/
structure State where
  /-- The seven 8-bit registers (R20). -/
  a : Byte
  b : Byte
  c : Byte
  d : Byte
  e : Byte
  h : Byte
  l : Byte
  /-- The flag register (R23). Read it through `State.readF`. -/
  f : Byte
  /-- The stack pointer (R22). -/
  sp : Word
  /-- The program counter (R27). -/
  pc : Word
  /-- The interrupt master enable (R28). -/
  ime : Bool
  /-- The run status (R29). -/
  status : Status
  /-- Work RAM, indexes 0..0x1FFF (R30). -/
  wram : Memory
  /-- High RAM, indexes 0..0x7E (R30). -/
  hram : Memory
  /-- The interrupt-enable byte at 0xFFFF (R30, R36). -/
  ie : Byte
  /-- ROM, cartridge RAM and the bank controller (R31, R33, R34). -/
  cart : Cart
  /-- The timer (R35). -/
  timer : Timer
  /-- The record of writes to external collaborators, newest first (spec/20_memory.md R57; log entry 5). -/
  extWrites : List ExtWrite
  /-- MODEL'S OWN: how many draws of the free value `ExtRead` have been made (log entry 4). -/
  extReads : Nat
  /-- MODEL'S OWN: the sum of the cycle counts that `step()` has returned (spec/70 R349, R355; log entry 3). -/
  elapsed : Nat
  /-- MODEL'S OWN: the parameters of spec/00_scope.md R8; no step changes them (log entry 6). -/
  cfg : Config
  deriving DecidableEq, Repr

/-- Why a step stops with a fault: one of the three fatal faults of spec/60_exceptions.md R300, each with its
recorded info and the state it leaves (R301: `status` is Faulted, the effects before the faulting access stay).
Log entry 1. -/
inductive Fault where
  /-- Raised by the meanings of the eleven unassigned codes (R114). Safe: the machine stops as the spec says. -/
  | illegalOpcode (addr : Word) (code : Word) (final : State)
  /-- Raised by a Bus access to 0xE000–0xFDFF or 0xFEA0–0xFEFF (R58). Safe: the machine stops as the spec says. -/
  | prohibitedAccess (addr : Word) (kind : AccessKind) (final : State)
  /-- Raised by a stack move that leaves the window (R240). Safe: the machine stops as the spec says. -/
  | stackFault (sp : Word) (final : State)
  deriving DecidableEq, Repr

/-- Why a step has no meaning. No arm of exec answers with it: every instruction is modelled. -/
inductive Refusal where
  /-- An instruction whose arm is not modelled yet, by the table's mnemonic. Safe: no claim covers it. -/
  | notModelled (mnemonic : String)
  deriving DecidableEq, Repr

/-- The three outcomes of a step or of a meaning. -/
abbrev Out := Host.Outcome State Fault Refusal

/-- The state of a core constructed with the parameters cfg around a cartridge (spec/10_state.md R40,
spec/70_reset_and_hazards.md R340). -/
def State.initial (cfg : Config) (cart : Cart) : State where
  a := 0
  b := 0
  c := 0
  d := 0
  e := 0
  h := 0
  l := 0
  f := 0
  sp := 0
  pc := 0
  ime := false
  status := .running
  wram := Memory.ofBytes (cfg.ramInit.wram.take 0x2000)
  hram := Memory.ofBytes (cfg.ramInit.hram.take 0x7F)
  ie := cfg.ramInit.ie
  cart := cart
  timer := Timer.reset
  extWrites := []
  extReads := 0
  elapsed := 0
  cfg := cfg

/-- The machine right after reset: a core constructed with the default parameters around no cartridge bytes
(R40, R340; log entry 7). -/
def State.reset : State := State.initial defaultConfig Cart.empty

end Sys2Proof.Machine
end

