-- ==== Sys2Proof/Machine/BankController.lean ====
section
/-! DEFINITION. The three bank controllers: `readRom`, `writeRom`, `readRam`, `writeRam` (spec/20_memory.md R62 to
R78), over the cartridge and the parameters. -/

namespace Sys2Proof.Machine

/-- `RomAt(o)`: a ROM offset beyond the bytes reads 0 (R62). -/
def Cart.romAt (k : Cart) (o : Nat) : Byte := if o < k.romSize then Memory.read k.rom o else 0x00#8

/-- `CramAt(o)` (R62). -/
def Cart.cramAt (k : Cart) (o : Nat) : Byte := if o < k.ramSize then Memory.read k.cram o else 0x00#8

/-- `CramPut(o, v)`: dropped beyond the RAM size (R62). -/
def Cart.cramPut (o : Nat) (v : Byte) (k : Cart) : Cart :=
  if o < k.ramSize then { k with cram := Memory.write k.cram o v } else k

/-- The ROM bank that appears at 0x4000–0x7FFF: NONE indexes ROM directly (R63), which is bank 1; COMBO its 7-bit
and RAMONLY its 4-bit index (R70, R77). -/
def Controller.switchableBank : Controller → Nat
  | .none => 1
  | .combo r => r.romBank.toNat
  | .ramonly r => r.romBank.toNat

/-- The ROM offset that a CPU address in 0x0000–0x7FFF names: the fixed region ignores banking (R63, R70, R77). -/
def Cart.romOffset (addr : Word) (k : Cart) : Nat :=
  if addr.toNat < 0x4000 then addr.toNat
  else k.ctrl.switchableBank * 0x4000 + (addr.toNat - 0x4000)

/-- `readRom(addr)` (R63, R70, R77). -/
def Cart.readRom (addr : Word) (k : Cart) : Byte := k.romAt (k.romOffset addr)

/-- The cartridge RAM offset that a CPU address in 0xA000–0xBFFF names: COMBO's bank is 0 unless mode = RAM (R71);
RAMONLY wraps every 0x200 bytes (R78); NONE has none (R63) and the value is not used. -/
def Cart.ramOffset (addr : Word) (k : Cart) : Nat :=
  match k.ctrl with
  | .none => 0
  | .combo r =>
    match r.mode with
    | .rom => addr.toNat - 0xA000
    | .ram => r.ramBank.toNat * 0x2000 + (addr.toNat - 0xA000)
  | .ramonly _ => (addr.toNat - 0xA000) % 0x200

/-- `ram_enabled`: NONE's RAM is never there (R63, R64). -/
def Controller.ramEnabled : Controller → Bool
  | .none => false
  | .combo r => r.ramEnabled
  | .ramonly r => r.ramEnabled

/-- The mask of a stored RAM cell: RAMONLY keeps 4 bits on both read and write (R78). -/
def Controller.ramMask : Controller → Byte
  | .none => 0xFF#8
  | .combo _ => 0xFF#8
  | .ramonly _ => 0x0F#8

/-- `readRam(addr)`: 0x00 while disabled (R63, R64, R71, R78). -/
def Cart.readRam (addr : Word) (k : Cart) : Byte :=
  if k.ctrl.ramEnabled then k.cramAt (k.ramOffset addr) &&& k.ctrl.ramMask else 0x00#8

/-- `writeRam(addr, v)`: dropped while disabled (R63, R64, R71, R78). -/
def Cart.writeRam (addr : Word) (v : Byte) (k : Cart) : Cart :=
  if k.ctrl.ramEnabled then k.cramPut (k.ramOffset addr) (v &&& k.ctrl.ramMask) else k

/-- The COMBO write to 0x2000–0x3FFF: the low 5 bits of the ROM bank, with 0 coerced to 1; bits 6:5 are kept
(R67). -/
def ComboRegs.selectLow (v : Byte) (r : ComboRegs) : ComboRegs :=
  let lo : BitVec 5 := v.extractLsb' 0 5
  let coerced : BitVec 5 := if lo = 0#5 then 1#5 else lo
  { r with romBank := (r.romBank &&& 0x60#7) ||| coerced.setWidth 7 }

/-- The COMBO write to 0x4000–0x5FFF: the RAM bank in RAM mode, bits 6:5 of the ROM bank in ROM mode (R68). -/
def ComboRegs.selectHigh (v : Byte) (r : ComboRegs) : ComboRegs :=
  match r.mode with
  | .ram => { r with ramBank := v.extractLsb' 0 2 }
  | .rom => { r with romBank := (r.romBank &&& 0x1F#7) ||| ((v.extractLsb' 0 2 : BitVec 2).setWidth 7 <<< 5) }

/-- The other mode. -/
def BankMode.toggled : BankMode → BankMode
  | .rom => .ram
  | .ram => .rom

/-- The COMBO write to 0x6000–0x7FFF under `MODE_WRITE_POLICY` (R69). -/
def ComboRegs.writeMode (cfg : Config) (v : Byte) (r : ComboRegs) : ComboRegs :=
  match cfg.modeWritePolicy with
  | .toggle => { r with mode := r.mode.toggled }
  | .setBit0 => { r with mode := if v.getLsbD 0 then .ram else .rom }

/-- COMBO `writeRom`: the four control ranges (R65 to R69). -/
def ComboRegs.writeControl (cfg : Config) (addr : Word) (v : Byte) (r : ComboRegs) : ComboRegs :=
  if addr.toNat < 0x2000 then { r with ramEnabled := v == cfg.ramEnableSentinel }
  else if addr.toNat < 0x4000 then r.selectLow v
  else if addr.toNat < 0x6000 then r.selectHigh v
  else r.writeMode cfg v

/-- The RAMONLY ROM-bank write: the low 4 bits, with 0 coerced to 1 (R76). -/
def RamonlyRegs.selectBank (v : Byte) (r : RamonlyRegs) : RamonlyRegs :=
  let b : BitVec 4 := v.extractLsb' 0 4
  { r with romBank := if b = 0#4 then 1#4 else b }

/-- RAMONLY `writeRom`: 0x0000–0x3FFF are control writes, selected by `MBC2_SELECT_BIT` of the address; the rest does
nothing (R73 to R76). -/
def RamonlyRegs.writeControl (cfg : Config) (addr : Word) (v : Byte) (r : RamonlyRegs) : RamonlyRegs :=
  if addr.toNat < 0x4000 then
    if addr.getLsbD cfg.mbc2SelectBit then r.selectBank v
    else { r with ramEnabled := v == cfg.ramEnableSentinel }
  else r

/-- The controller after a control write: NONE ignores it (R63). -/
def Controller.writeControl (cfg : Config) (addr : Word) (v : Byte) : Controller → Controller
  | .none => .none
  | .combo r => .combo (r.writeControl cfg addr v)
  | .ramonly r => .ramonly (r.writeControl cfg addr v)

/-- `writeRom(addr, v)`: a control write, which changes no ROM byte (R53). -/
def Cart.writeRom (cfg : Config) (addr : Word) (v : Byte) (k : Cart) : Cart :=
  { k with ctrl := k.ctrl.writeControl cfg addr v }

end Sys2Proof.Machine
end

