-- ==== Sys2Proof/Machine/Timer.lean ====
section
/-! DEFINITION. The timer: register reads and writes and the tick (spec/60_exceptions.md R310 to R316). -/

namespace Sys2Proof.Machine

/-- `enabled = TAC[2]` (spec/10_state.md R35). -/
def Timer.enabled (t : Timer) : Bool := t.tac.getLsbD 2

/-- `threshold = clock_select(TAC[1:0])`: 00 → 1024, 01 → 16, 10 → 64, 11 → 256 cycles (R35, R315). -/
def Timer.threshold (t : Timer) : Nat :=
  match t.tac.toNat % 4 with
  | 0 => 1024
  | 1 => 16
  | 2 => 64
  | _ => 256

/-- Timer register reads (R312): 0xFF04 DIV, 0xFF05 TIMA, 0xFF06 TMA, 0xFF07 TAC. No side effect. -/
def Timer.readReg (addr : Word) (t : Timer) : Byte :=
  if addr = 0xFF04#16 then t.div
  else if addr = 0xFF05#16 then t.tima
  else if addr = 0xFF06#16 then t.tma
  else t.tac

/-- Timer register writes (R313). A TAC write keeps `tima_acc`; a TIMA write keeps `tima_acc` and `timer_irq`. -/
def Timer.writeReg (cfg : Config) (addr : Word) (v : Byte) (t : Timer) : Timer :=
  if addr = 0xFF04#16 then
    match cfg.divWrite with
    | .reset => { t with div := 0x00, divAcc := 0 }
    | .store => { t with div := v }
  else if addr = 0xFF05#16 then { t with tima := v }
  else if addr = 0xFF06#16 then { t with tma := v }
  else { t with tac := v }

/-- Divider counting (R314): each full 256 cycles increments DIV, which wraps. -/
def Timer.tickDiv (c : Nat) (t : Timer) : Timer :=
  { t with divAcc := (t.divAcc + c) % 256, div := t.div + BitVec.ofNat 8 ((t.divAcc + c) / 256) }

/-- One increment of TIMA (R315): at 0xFF it is reloaded from TMA and the request bit is set. -/
def Timer.countOnce (t : Timer) : Timer :=
  if t.tima = 0xFF#8 then { t with tima := t.tma, irq := true } else { t with tima := t.tima + 1 }

/-- n increments of TIMA, each processed in turn (R315). -/
def Timer.countTimes : Nat → Timer → Timer
  | 0, t => t
  | n + 1, t => Timer.countTimes n t.countOnce

/-- Counter counting (R315): with TAC[2] set, the accumulator accrues against the threshold and each full threshold
is one increment. The spec's loop runs (tima_acc + c) / threshold times (log entry 17). -/
def Timer.tickTima (c : Nat) (t : Timer) : Timer :=
  if t.enabled then
    Timer.countTimes ((t.timaAcc + c) / t.threshold) { t with timaAcc := (t.timaAcc + c) % t.threshold }
  else t

/-- `TimerTick(c)` (R311, R314, R315). -/
def Timer.tick (c : Nat) (t : Timer) : Timer := (t.tickDiv c).tickTima c

end Sys2Proof.Machine
end

