-- ==== Sys2Proof/Machine/Ops.lean ====
section
/-! DEFINITION. The operations every meaning is written over: raising a fault, the Bus (spec/20_memory.md R50 to
R61), 16-bit accesses, the stack (spec/00_scope.md R13), the program counter and the end of an instruction
(spec/30_encoding.md R100, R111, R113). -/

namespace Sys2Proof.Machine

/-! ## Faults (spec/60_exceptions.md R300, R301) -/

/-- The cause code of a fault (R300). -/
def FaultInfo.cause : FaultInfo → Nat
  | .illegalOpcode _ _ => 1
  | .prohibitedAccess _ _ => 2
  | .stackFault _ => 3

/-- TAKING A FAULT: the step ends at once, `status <- Faulted(f)`, and the state keeps every effect made so far.
There is no trap entry: nothing is saved and no vector is taken (R301, R307). -/
def raise (i : FaultInfo) (s : State) : Fault :=
  match i with
  | .illegalOpcode addr code => .illegalOpcode addr code { s with status := .faulted i }
  | .prohibitedAccess addr kind => .prohibitedAccess addr kind { s with status := .faulted i }
  | .stackFault sp => .stackFault sp { s with status := .faulted i }

/-- The recorded info of a fault (R300). -/
def Fault.info : Fault → FaultInfo
  | .illegalOpcode addr code _ => .illegalOpcode addr code
  | .prohibitedAccess addr kind _ => .prohibitedAccess addr kind
  | .stackFault sp _ => .stackFault sp

/-- The state a fault leaves (R301). -/
def Fault.final : Fault → State
  | .illegalOpcode _ _ s => s
  | .prohibitedAccess _ _ s => s
  | .stackFault _ s => s

/-- The result of one operation inside a step: a value and the state after it, or a fault. -/
inductive Res (α : Type) where
  | ok (x : α) (s : State)
  | fault (r : Fault)
  deriving Repr

/-- Go on after an operation, inside an operation. -/
def Res.bind {α β : Type} (r : Res α) (k : α → State → Res β) : Res β :=
  match r with
  | .ok x s => k x s
  | .fault e => .fault e

/-- Go on after an operation, to the end of the instruction. -/
def Res.andThen {α : Type} (r : Res α) (k : α → State → Out) : Out :=
  match r with
  | .ok x s => k x s
  | .fault e => .fault e

/-! ## The Bus -/

/-- The rows of the dispatch table (R51). -/
inductive Region where
  | rom
  | videoRam
  | cartRam
  | workRam
  | echo
  | spriteAttr
  | unusable
  | ioExternal
  | timer
  | highRam
  | interruptEnable
  deriving DecidableEq, Repr

/-- The row of the dispatch table that an address belongs to (R51). -/
def regionOf (addr : Word) : Region :=
  if addr.toNat < 0x8000 then .rom
  else if addr.toNat < 0xA000 then .videoRam
  else if addr.toNat < 0xC000 then .cartRam
  else if addr.toNat < 0xE000 then .workRam
  else if addr.toNat < 0xFE00 then .echo
  else if addr.toNat < 0xFEA0 then .spriteAttr
  else if addr.toNat < 0xFF00 then .unusable
  else if addr.toNat < 0xFF04 then .ioExternal
  else if addr.toNat < 0xFF08 then .timer
  else if addr.toNat < 0xFF80 then .ioExternal
  else if addr.toNat < 0xFFFF then .highRam
  else .interruptEnable

/-- The prohibited regions (R58). -/
def prohibited (addr : Word) : Bool :=
  match regionOf addr with
  | .echo | .unusable => true
  | .rom | .videoRam | .cartRam | .workRam | .spriteAttr | .ioExternal | .timer | .highRam | .interruptEnable => false

/-- The external collaborators' regions (R57). -/
def external (addr : Word) : Bool :=
  match regionOf addr with
  | .videoRam | .spriteAttr | .ioExternal => true
  | .rom | .cartRam | .workRam | .echo | .unusable | .timer | .highRam | .interruptEnable => false

/-- What a Bus read of an address outside the prohibited regions gives (R51): the owner's byte, and for an external
address the next draw of the free value `ExtRead` (R57). (In a prohibited region there is no value: `readByte`
faults before this one is used.) -/
def busValue (addr : Word) (s : State) : Byte :=
  match regionOf addr with
  | .rom => s.cart.readRom addr
  | .cartRam => s.cart.readRam addr
  | .workRam => Memory.read s.wram (addr.toNat - 0xC000)
  | .timer => s.timer.readReg addr
  | .highRam => Memory.read s.hram (addr.toNat - 0xFF80)
  | .interruptEnable => s.ie
  | .videoRam | .spriteAttr | .ioExternal | .echo | .unusable => Config.extRead s.extReads addr

/-- The state after a Bus read: no read of a CORE-owned address has a side effect (R83), and an external one is a
draw. -/
def busAfterRead (addr : Word) (s : State) : State :=
  if external addr then { s with extReads := s.extReads + 1 } else s

/-- `MemRead(addr, 1)`: one Bus read (R50, R51, R58). -/
def readByte (addr : Word) (s : State) : Res Byte :=
  if prohibited addr then .fault (raise (.prohibitedAccess addr .read) s)
  else .ok (busValue addr s) (busAfterRead addr s)

/-- The state after a Bus write to an address outside the prohibited regions (R51): the owner's write, and for an
external address the recorded event `ExtWrite(addr, v)` (R57). -/
def busStore (addr : Word) (v : Byte) (s : State) : State :=
  match regionOf addr with
  | .rom => { s with cart := s.cart.writeRom s.cfg addr v }
  | .cartRam => { s with cart := s.cart.writeRam addr v }
  | .workRam => { s with wram := Memory.write s.wram (addr.toNat - 0xC000) v }
  | .timer => { s with timer := s.timer.writeReg s.cfg addr v }
  | .highRam => { s with hram := Memory.write s.hram (addr.toNat - 0xFF80) v }
  | .interruptEnable => { s with ie := v }
  | .videoRam | .spriteAttr | .ioExternal => { s with extWrites := ⟨addr, v⟩ :: s.extWrites }
  | .echo | .unusable => s

/-- `MemWrite(addr, 1, v)`: one Bus write (R50, R51, R58). -/
def writeByte (addr : Word) (v : Byte) (s : State) : Res Unit :=
  if prohibited addr then .fault (raise (.prohibitedAccess addr .write) s)
  else .ok () (busStore addr v s)

/-- `MemRead(addr, 2)`: the low byte at addr first, then the high byte at addr + 1, which wraps (R52). -/
def readWord (addr : Word) (s : State) : Res Word :=
  (readByte addr s).bind fun lo s1 =>
    (readByte (addr + 1) s1).bind fun hi s2 => .ok (joinBytes hi lo) s2

/-- `MemWrite(addr, 2, v)`: the low byte at addr first, then the high byte at addr + 1, which wraps (R52). -/
def writeWord (addr : Word) (v : Word) (s : State) : Res Unit :=
  (writeByte addr (loByte v) s).bind fun _ s1 => writeByte (addr + 1) (hiByte v) s1

/-! ## The stack (spec/00_scope.md R13, spec/44_control_flow.md R240) -/

/-- SP lies in the stack window (R240). -/
def inStackWindow (cfg : Config) (sp : Word) : Bool :=
  decide (cfg.stackLo.toNat ≤ sp.toNat) && decide (sp.toNat ≤ cfg.stackHi.toNat)

/-- Move SP, then check it (R13 `StackCheck`): a failing check leaves SP moved. -/
def moveSP (sp : Word) (s : State) : Res Unit :=
  if inStackWindow s.cfg sp then .ok () { s with sp := sp }
  else .fault (raise (.stackFault sp) { s with sp := sp })

/-- `Push16(v)` (R13): move by 2, check, then write. -/
def push16 (v : Word) (s : State) : Res Unit :=
  (moveSP (s.sp - 2) s).bind fun _ s1 => writeWord s1.sp v s1

/-- `Pop16()` (R13): move by 2, check, then read at the old SP. -/
def pop16 (s : State) : Res Word :=
  (moveSP (s.sp + 2) s).bind fun _ s1 => readWord s.sp s1

/-! ## The program counter and the end of an instruction -/

/-- The entry of `CYCLES` for a code, taken or not, where it differs from the default count (spec/00_scope.md R8,
spec/30_encoding.md R117; log entry 6). -/
def cycleCount (cfg : Config) (code : Nat) (taken : Bool) (default : Nat) : Nat :=
  (cfg.cycles.lookup (code, taken)).getD default

/-- `CYCLES[code].taken`: the count of an unconditional instruction and of a taken conditional (R117). -/
def State.cycles (code default : Nat) (s : State) : Nat := cycleCount s.cfg code true default

/-- `CYCLES[code].not_taken`: the count of a conditional that is not taken (R117). -/
def State.cyclesNotTaken (code default : Nat) (s : State) : Nat := cycleCount s.cfg code false default

/-- The fetch-time advance of R102: PC past the n code bytes. A fault later in the step leaves PC there. -/
def State.fetched (n : Word) (s : State) : State := { s with pc := s.pc + n }

/-- The end of an instruction that does not fault: PC as R111 or the transfer of R113 leaves it, the timer ticked
once by the cycle count (spec/60_exceptions.md R311), the count added to what `step()` has returned. -/
def State.retired (pc : Word) (cycles : Nat) (s : State) : State :=
  { s with pc := pc, timer := s.timer.tick cycles, elapsed := s.elapsed + cycles }

/-- End an instruction (R100). -/
def finish (pc : Word) (cycles : Nat) (s : State) : Out := .next (s.retired pc cycles)

end Sys2Proof.Machine
end

