-- ==== Sys2Proof/Machine/Operands.lean ====
section
/-! DEFINITION. Operand forms: the 8-bit registers and `(HL)`, the register pairs, the conditions
(spec/30_encoding.md R104, R105; spec/10_state.md R20 to R24). -/

namespace Sys2Proof.Machine

/-- The 8-bit register a code names (R104). -/
def State.reg (s : State) : Reg8 → Byte
  | .b => s.b
  | .c => s.c
  | .d => s.d
  | .e => s.e
  | .h => s.h
  | .l => s.l
  | .a => s.a

/-- Write an 8-bit register (R20: none is hardwired). -/
def State.setReg (r : Reg8) (v : Byte) (s : State) : State :=
  match r with
  | .b => { s with b := v }
  | .c => { s with c := v }
  | .d => { s with d := v }
  | .e => { s with e := v }
  | .h => { s with h := v }
  | .l => { s with l := v }
  | .a => { s with a := v }

/-- `BC = B ++ C` (R21). -/
def State.bc (s : State) : Word := joinBytes s.b s.c

/-- `DE = D ++ E` (R21). -/
def State.de (s : State) : Word := joinBytes s.d s.e

/-- `HL = H ++ L` (R21). -/
def State.hl (s : State) : Word := joinBytes s.h s.l

/-- `BC <- v` (R21). -/
def State.setBC (v : Word) (s : State) : State := { s with b := hiByte v, c := loByte v }

/-- `DE <- v` (R21). -/
def State.setDE (v : Word) (s : State) : State := { s with d := hiByte v, e := loByte v }

/-- `HL <- v` (R21). -/
def State.setHL (v : Word) (s : State) : State := { s with h := hiByte v, l := loByte v }

/-- `SP <- v`, unchecked (spec/44_control_flow.md R241). -/
def State.setSP (v : Word) (s : State) : State := { s with sp := v }

/-- Reading F: `F[3:0]` reads as 0 always (R23). -/
def State.readF (s : State) : Byte := s.f &&& 0xF0#8

/-- Writing F: `F[3:0]` ignores writes (R23). -/
def State.writeF (v : Byte) (s : State) : State := { s with f := v &&& 0xF0#8 }

/-- `AF = A ++ F` (R24). -/
def State.af (s : State) : Word := joinBytes s.a s.readF

/-- `AF <- v`: `A <- v[15:8]`, `F <- v[7:0] AND 0xF0` (R24). -/
def State.setAF (v : Word) (s : State) : State := { s with a := hiByte v, f := loByte v &&& 0xF0#8 }

/-- `rp[p]` (R105). -/
def State.pair (s : State) : Pair → Word
  | .bc => s.bc
  | .de => s.de
  | .hl => s.hl
  | .sp => s.sp

/-- Write `rp[p]`: LD rr, INC rr and DEC rr do not check the stack window (spec/44_control_flow.md R241). -/
def State.setPair (p : Pair) (v : Word) (s : State) : State :=
  match p with
  | .bc => s.setBC v
  | .de => s.setDE v
  | .hl => s.setHL v
  | .sp => s.setSP v

/-- `rp2[p]` (R105). -/
def State.stackPair (s : State) : StackPair → Word
  | .bc => s.bc
  | .de => s.de
  | .hl => s.hl
  | .af => s.af

/-- Write `rp2[p]`. -/
def State.setStackPair (p : StackPair) (v : Word) (s : State) : State :=
  match p with
  | .bc => s.setBC v
  | .de => s.setDE v
  | .hl => s.setHL v
  | .af => s.setAF v

/-- The pair of `LD A,(rr)` and `LD (rr),A` (spec/41_loads.md R155, R156). -/
def State.addrPair (s : State) : AddrPair → Word
  | .bc => s.bc
  | .de => s.de

/-- `Read8(k)`: the register, or the byte at HL (R104). -/
def readR8 (o : R8) (s : State) : Res Byte :=
  match o with
  | .reg r => .ok (s.reg r) s
  | .indHL => readByte s.hl s

/-- `Write8(k, v)`: the register, or the byte at HL (R104). -/
def writeR8 (o : R8) (v : Byte) (s : State) : Res Unit :=
  match o with
  | .reg r => .ok () (s.setReg r v)
  | .indHL => writeByte s.hl v s

/-- The cycle count of an r8 form: one for the registers, one for `(HL)`. -/
def r8Cycles (o : R8) (register memory : Nat) : Nat :=
  match o with
  | .reg _ => register
  | .indHL => memory

/-- The Zero flag, F[7] (R23). -/
def State.flagZ (s : State) : Bool := s.f.getLsbD 7

/-- The Subtract flag, F[6] (R23). -/
def State.flagN (s : State) : Bool := s.f.getLsbD 6

/-- The Half-Carry flag, F[5] (R23). -/
def State.flagH (s : State) : Bool := s.f.getLsbD 5

/-- The Carry flag, F[4] (R23). -/
def State.flagC (s : State) : Bool := s.f.getLsbD 4

/-- `cc[c]` on the flags before the instruction (R105, spec/44_control_flow.md R242). -/
def State.cond (s : State) : Cond → Bool
  | .nz => !s.flagZ
  | .z => s.flagZ
  | .nc => !s.flagC
  | .c => s.flagC

end Sys2Proof.Machine
end

