-- ==== Sys2Proof/Machine/Flags.lean ====
section
/-! DEFINITION. The ALU helper (spec/40_alu.md R130 to R137), the engine's own 8-bit computations
(spec/43_rotate_shift_bit.md, spec/45_misc.md R271) and the packing of the flags (spec/10_state.md R23, R25). -/

namespace Sys2Proof.Machine

/-- The four flags packed into the high nibble; the low nibble is 0 (R23). -/
def packFlags (z n h c : Bool) : Byte :=
  (((bitByte z <<< 7) ||| (bitByte n <<< 6)) ||| (bitByte h <<< 5)) ||| (bitByte c <<< 4)

/-- Write the four flags. A rule that leaves a flag unchanged passes its present value (R25). -/
def State.setFlags (z n h c : Bool) (s : State) : State := { s with f := packFlags z n h c }

/-! ## The ALU helper -/

/-- The tuple an ALU call returns (R130). -/
structure AluResult (w : Nat) where
  result : BitVec w
  half : Bool
  carry : Bool
  zero : Bool
  deriving DecidableEq, Repr

/-- `add(w, x, y, cin, hb, cb)` (R130). -/
def aluAdd {w : Nat} (x y : BitVec w) (cin : Bool) (hb cb : Nat) : AluResult w :=
  let result := BitVec.ofNat w (x.toNat + y.toNat + cin.toNat)
  { result := result
    half := decide (2 ^ hb - 1 < x.toNat % 2 ^ hb + y.toNat % 2 ^ hb + cin.toNat)
    carry := decide (2 ^ cb - 1 < x.toNat % 2 ^ cb + y.toNat % 2 ^ cb + cin.toNat)
    zero := result == BitVec.ofNat w 0 }

/-- `sub(w, x, y, cin, hb, cb)`: the borrow form (R131). -/
def aluSub {w : Nat} (x y : BitVec w) (cin : Bool) (hb cb : Nat) : AluResult w :=
  let result := x - y - BitVec.ofNat w cin.toNat
  { result := result
    half := decide (x.toNat % 2 ^ hb < y.toNat % 2 ^ hb + cin.toNat)
    carry := decide (x.toNat % 2 ^ cb < y.toNat % 2 ^ cb + cin.toNat)
    zero := result == BitVec.ofNat w 0 }

/-- `add8` (R133): bit positions 4 and 8. -/
def add8 (x y : Byte) (cin : Bool) : AluResult 8 := aluAdd x y cin 4 8

/-- `sub8` (R133). -/
def sub8 (x y : Byte) (cin : Bool) : AluResult 8 := aluSub x y cin 4 8

/-- `add16` (R133): bit positions 12 and 16. -/
def add16 (x y : Word) : AluResult 16 := aluAdd x y false 12 16

/-- `addsp` (R133): the sign-extended displacement, bit positions 4 and 8. -/
def addsp (x : Word) (e : Byte) : AluResult 16 := aluAdd x (sext16 e) false 4 8

/-! ## The 8-bit operations with the accumulator (spec/42_arith_logic.md R180 to R195) -/

/-- A and F from an ALU tuple: `A <- r; Z <- zf; N <- n; Hf <- h; Cf <- c`. -/
def State.setAluA (r : AluResult 8) (n : Bool) (s : State) : State :=
  (s.setReg .a r.result).setFlags r.zero n r.half r.carry

/-- A and F from a logical result: Z from the result, N 0, Hf forced, Cf 0 (R135). -/
def State.setLogicA (r : Byte) (h : Bool) (s : State) : State :=
  (s.setReg .a r).setFlags (r == 0x00#8) false h false

/-- The accumulator operation op with operand v (R180, R182, R184, R186, R188, R190, R192, R194). -/
def aluA (op : AluOp) (v : Byte) (s : State) : State :=
  match op with
  | .add => s.setAluA (add8 s.a v false) false
  | .adc => s.setAluA (add8 s.a v s.flagC) false
  | .sub => s.setAluA (sub8 s.a v false) true
  | .sbc => s.setAluA (sub8 s.a v s.flagC) true
  | .and => s.setLogicA (s.a &&& v) true
  | .xor => s.setLogicA (s.a ^^^ v) false
  | .or => s.setLogicA (s.a ||| v) false
  | .cp =>
    let r := sub8 s.a v false
    s.setFlags r.zero true r.half r.carry

/-- The flags of 8-bit INC: `Z 0 H -` (R137, R196). -/
def State.setIncFlags (v : Byte) (s : State) : State :=
  s.setFlags (add8 v 1 false).zero false (add8 v 1 false).half s.flagC

/-- The flags of 8-bit DEC: `Z 1 H -` (R137, R198). -/
def State.setDecFlags (v : Byte) (s : State) : State :=
  s.setFlags (sub8 v 1 false).zero true (sub8 v 1 false).half s.flagC

/-! ## Rotates, shifts and bits (spec/43_rotate_shift_bit.md) -/

/-- The result and the bit shifted out (0 for SWAP) of a rotate or shift (R215 to R222). -/
def rotShift (op : RotOp) (v : Byte) (cin : Bool) : Byte × Bool :=
  match op with
  | .rlc => ((v <<< 1) ||| bitByte (v.getLsbD 7), v.getLsbD 7)
  | .rrc => ((v >>> 1) ||| (bitByte (v.getLsbD 0) <<< 7), v.getLsbD 0)
  | .rl => ((v <<< 1) ||| bitByte cin, v.getLsbD 7)
  | .rr => ((v >>> 1) ||| (bitByte cin <<< 7), v.getLsbD 0)
  | .sla => (v <<< 1, v.getLsbD 7)
  | .sra => ((v >>> 1) ||| (v &&& 0x80#8), v.getLsbD 0)
  | .swap => ((v <<< 4) ||| (v >>> 4), false)
  | .srl => (v >>> 1, v.getLsbD 0)

/-- `1 << y`, as a byte. -/
def bitMask (y : Fin 8) : Byte := 0x01#8 <<< y.val

/-! ## Decimal adjust (spec/45_misc.md R271) -/

/-- A and Cf after DAA, from A, N, Hf and Cf. -/
def decimalAdjust (a : Byte) (n h c : Bool) : Byte × Bool :=
  if n then
    let a1 := if c then a - 0x60#8 else a
    let a2 := if h then a1 - 0x06#8 else a1
    (a2, c)
  else
    let big := c || decide (0x99 < a.toNat)
    let a1 := if big then a + 0x60#8 else a
    let a2 := if h || decide (0x9 < a1.toNat % 16) then a1 + 0x06#8 else a1
    (a2, c || big)

end Sys2Proof.Machine
end

