-- ==== Sys2Proof/Machine/ArithLogic.lean ====
section
/-! DEFINITION. Arithmetic and logic (spec/42_arith_logic.md R180 to R203): the shared operations, then one definition
for each instruction. In every one `s.pc` is the address of the instruction's first byte (log entry 12). -/

namespace Sys2Proof.Machine

/-- The accumulator operations with an r8 source (R180 to R194, the even rules). -/
def aluR8 (op : AluOp) (o : R8) (s : State) : Out :=
  (readR8 o (s.fetched 1)).andThen fun v t =>
    finish (s.pc + 1) (s.cycles (0x80 + 8 * op.code + o.code) (r8Cycles o 4 8)) (aluA op v t)

/-- The accumulator operations with an immediate (R181 to R195, the odd rules). -/
def aluImm (op : AluOp) (n : Byte) (s : State) : Out :=
  finish (s.pc + 2) (s.cycles (0xC6 + 8 * op.code) 8) (aluA op n s)

/-- `INC r` (R196). -/
def incReg (r : Reg8) (s : State) : Out :=
  finish (s.pc + 1) (s.cycles (0x04 + 8 * r.code) 4)
    ((s.setReg r (add8 (s.reg r) 1 false).result).setIncFlags (s.reg r))

/-- `DEC r` (R198). -/
def decReg (r : Reg8) (s : State) : Out :=
  finish (s.pc + 1) (s.cycles (0x05 + 8 * r.code) 4)
    ((s.setReg r (sub8 (s.reg r) 1 false).result).setDecFlags (s.reg r))

/-- `INC rr` (R200): no flag, no window check. -/
def incPair (p : Pair) (s : State) : Out :=
  finish (s.pc + 1) (s.cycles (0x03 + 16 * p.code) 8) (s.setPair p (s.pair p + 1))

/-- `DEC rr` (R201). -/
def decPair (p : Pair) (s : State) : Out :=
  finish (s.pc + 1) (s.cycles (0x0B + 16 * p.code) 8) (s.setPair p (s.pair p - 1))

/-- `ADD HL,rr` (R202): Z is not written. -/
def addHLPair (p : Pair) (s : State) : Out :=
  let r := add16 s.hl (s.pair p)
  finish (s.pc + 1) (s.cycles (0x09 + 16 * p.code) 8)
    ((s.setHL r.result).setFlags s.flagZ false r.half r.carry)

/-- `INC BC` (R200). -/
def exec_inc_BC (s : State) : Out := incPair .bc s

/-- `INC B` (R196). -/
def exec_inc_B (s : State) : Out := incReg .b s

/-- `DEC B` (R198). -/
def exec_dec_B (s : State) : Out := decReg .b s

/-- `ADD HL,BC` (R202). -/
def exec_add_HL_BC (s : State) : Out := addHLPair .bc s

/-- `DEC BC` (R201). -/
def exec_dec_BC (s : State) : Out := decPair .bc s

/-- `INC C` (R196). -/
def exec_inc_C (s : State) : Out := incReg .c s

/-- `DEC C` (R198). -/
def exec_dec_C (s : State) : Out := decReg .c s

/-- `INC DE` (R200). -/
def exec_inc_DE (s : State) : Out := incPair .de s

/-- `INC D` (R196). -/
def exec_inc_D (s : State) : Out := incReg .d s

/-- `DEC D` (R198). -/
def exec_dec_D (s : State) : Out := decReg .d s

/-- `ADD HL,DE` (R202). -/
def exec_add_HL_DE (s : State) : Out := addHLPair .de s

/-- `DEC DE` (R201). -/
def exec_dec_DE (s : State) : Out := decPair .de s

/-- `INC E` (R196). -/
def exec_inc_E (s : State) : Out := incReg .e s

/-- `DEC E` (R198). -/
def exec_dec_E (s : State) : Out := decReg .e s

/-- `INC HL` (R200). -/
def exec_inc_HL (s : State) : Out := incPair .hl s

/-- `INC H` (R196). -/
def exec_inc_H (s : State) : Out := incReg .h s

/-- `DEC H` (R198). -/
def exec_dec_H (s : State) : Out := decReg .h s

/-- `ADD HL,HL` (R202). -/
def exec_add_HL_HL (s : State) : Out := addHLPair .hl s

/-- `DEC HL` (R201). -/
def exec_dec_HL (s : State) : Out := decPair .hl s

/-- `INC L` (R196). -/
def exec_inc_L (s : State) : Out := incReg .l s

/-- `DEC L` (R198). -/
def exec_dec_L (s : State) : Out := decReg .l s

/-- `INC SP` (R200). -/
def exec_inc_SP (s : State) : Out := incPair .sp s

/-- `INC (HL)` (R197). -/
def exec_inc_indHL (s : State) : Out :=
  (readByte s.hl (s.fetched 1)).andThen fun v t =>
    (writeByte s.hl (add8 v 1 false).result t).andThen fun _ u =>
      finish (s.pc + 1) (s.cycles 0x34 12) (u.setIncFlags v)

/-- `DEC (HL)` (R199). -/
def exec_dec_indHL (s : State) : Out :=
  (readByte s.hl (s.fetched 1)).andThen fun v t =>
    (writeByte s.hl (sub8 v 1 false).result t).andThen fun _ u =>
      finish (s.pc + 1) (s.cycles 0x35 12) (u.setDecFlags v)

/-- `ADD HL,SP` (R202). -/
def exec_add_HL_SP (s : State) : Out := addHLPair .sp s

/-- `DEC SP` (R201). -/
def exec_dec_SP (s : State) : Out := decPair .sp s

/-- `INC A` (R196). -/
def exec_inc_A (s : State) : Out := incReg .a s

/-- `DEC A` (R198). -/
def exec_dec_A (s : State) : Out := decReg .a s

/-- `ADD A,B` (R180). -/
def exec_add_A_B (s : State) : Out := aluR8 .add (.reg .b) s

/-- `ADD A,C` (R180). -/
def exec_add_A_C (s : State) : Out := aluR8 .add (.reg .c) s

/-- `ADD A,D` (R180). -/
def exec_add_A_D (s : State) : Out := aluR8 .add (.reg .d) s

/-- `ADD A,E` (R180). -/
def exec_add_A_E (s : State) : Out := aluR8 .add (.reg .e) s

/-- `ADD A,H` (R180). -/
def exec_add_A_H (s : State) : Out := aluR8 .add (.reg .h) s

/-- `ADD A,L` (R180). -/
def exec_add_A_L (s : State) : Out := aluR8 .add (.reg .l) s

/-- `ADD A,(HL)` (R180). -/
def exec_add_A_indHL (s : State) : Out := aluR8 .add .indHL s

/-- `ADD A,A` (R180). -/
def exec_add_A_A (s : State) : Out := aluR8 .add (.reg .a) s

/-- `ADC A,B` (R182). -/
def exec_adc_A_B (s : State) : Out := aluR8 .adc (.reg .b) s

/-- `ADC A,C` (R182). -/
def exec_adc_A_C (s : State) : Out := aluR8 .adc (.reg .c) s

/-- `ADC A,D` (R182). -/
def exec_adc_A_D (s : State) : Out := aluR8 .adc (.reg .d) s

/-- `ADC A,E` (R182). -/
def exec_adc_A_E (s : State) : Out := aluR8 .adc (.reg .e) s

/-- `ADC A,H` (R182). -/
def exec_adc_A_H (s : State) : Out := aluR8 .adc (.reg .h) s

/-- `ADC A,L` (R182). -/
def exec_adc_A_L (s : State) : Out := aluR8 .adc (.reg .l) s

/-- `ADC A,(HL)` (R182). -/
def exec_adc_A_indHL (s : State) : Out := aluR8 .adc .indHL s

/-- `ADC A,A` (R182). -/
def exec_adc_A_A (s : State) : Out := aluR8 .adc (.reg .a) s

/-- `SUB B` (R184). -/
def exec_sub_B (s : State) : Out := aluR8 .sub (.reg .b) s

/-- `SUB C` (R184). -/
def exec_sub_C (s : State) : Out := aluR8 .sub (.reg .c) s

/-- `SUB D` (R184). -/
def exec_sub_D (s : State) : Out := aluR8 .sub (.reg .d) s

/-- `SUB E` (R184). -/
def exec_sub_E (s : State) : Out := aluR8 .sub (.reg .e) s

/-- `SUB H` (R184). -/
def exec_sub_H (s : State) : Out := aluR8 .sub (.reg .h) s

/-- `SUB L` (R184). -/
def exec_sub_L (s : State) : Out := aluR8 .sub (.reg .l) s

/-- `SUB (HL)` (R184). -/
def exec_sub_indHL (s : State) : Out := aluR8 .sub .indHL s

/-- `SUB A` (R184). -/
def exec_sub_A (s : State) : Out := aluR8 .sub (.reg .a) s

/-- `SBC A,B` (R186). -/
def exec_sbc_A_B (s : State) : Out := aluR8 .sbc (.reg .b) s

/-- `SBC A,C` (R186). -/
def exec_sbc_A_C (s : State) : Out := aluR8 .sbc (.reg .c) s

/-- `SBC A,D` (R186). -/
def exec_sbc_A_D (s : State) : Out := aluR8 .sbc (.reg .d) s

/-- `SBC A,E` (R186). -/
def exec_sbc_A_E (s : State) : Out := aluR8 .sbc (.reg .e) s

/-- `SBC A,H` (R186). -/
def exec_sbc_A_H (s : State) : Out := aluR8 .sbc (.reg .h) s

/-- `SBC A,L` (R186). -/
def exec_sbc_A_L (s : State) : Out := aluR8 .sbc (.reg .l) s

/-- `SBC A,(HL)` (R186). -/
def exec_sbc_A_indHL (s : State) : Out := aluR8 .sbc .indHL s

/-- `SBC A,A` (R186). -/
def exec_sbc_A_A (s : State) : Out := aluR8 .sbc (.reg .a) s

/-- `AND B` (R188). -/
def exec_and_B (s : State) : Out := aluR8 .and (.reg .b) s

/-- `AND C` (R188). -/
def exec_and_C (s : State) : Out := aluR8 .and (.reg .c) s

/-- `AND D` (R188). -/
def exec_and_D (s : State) : Out := aluR8 .and (.reg .d) s

/-- `AND E` (R188). -/
def exec_and_E (s : State) : Out := aluR8 .and (.reg .e) s

/-- `AND H` (R188). -/
def exec_and_H (s : State) : Out := aluR8 .and (.reg .h) s

/-- `AND L` (R188). -/
def exec_and_L (s : State) : Out := aluR8 .and (.reg .l) s

/-- `AND (HL)` (R188). -/
def exec_and_indHL (s : State) : Out := aluR8 .and .indHL s

/-- `AND A` (R188). -/
def exec_and_A (s : State) : Out := aluR8 .and (.reg .a) s

/-- `XOR B` (R190). -/
def exec_xor_B (s : State) : Out := aluR8 .xor (.reg .b) s

/-- `XOR C` (R190). -/
def exec_xor_C (s : State) : Out := aluR8 .xor (.reg .c) s

/-- `XOR D` (R190). -/
def exec_xor_D (s : State) : Out := aluR8 .xor (.reg .d) s

/-- `XOR E` (R190). -/
def exec_xor_E (s : State) : Out := aluR8 .xor (.reg .e) s

/-- `XOR H` (R190). -/
def exec_xor_H (s : State) : Out := aluR8 .xor (.reg .h) s

/-- `XOR L` (R190). -/
def exec_xor_L (s : State) : Out := aluR8 .xor (.reg .l) s

/-- `XOR (HL)` (R190). -/
def exec_xor_indHL (s : State) : Out := aluR8 .xor .indHL s

/-- `XOR A` (R190). -/
def exec_xor_A (s : State) : Out := aluR8 .xor (.reg .a) s

/-- `OR B` (R192). -/
def exec_or_B (s : State) : Out := aluR8 .or (.reg .b) s

/-- `OR C` (R192). -/
def exec_or_C (s : State) : Out := aluR8 .or (.reg .c) s

/-- `OR D` (R192). -/
def exec_or_D (s : State) : Out := aluR8 .or (.reg .d) s

/-- `OR E` (R192). -/
def exec_or_E (s : State) : Out := aluR8 .or (.reg .e) s

/-- `OR H` (R192). -/
def exec_or_H (s : State) : Out := aluR8 .or (.reg .h) s

/-- `OR L` (R192). -/
def exec_or_L (s : State) : Out := aluR8 .or (.reg .l) s

/-- `OR (HL)` (R192). -/
def exec_or_indHL (s : State) : Out := aluR8 .or .indHL s

/-- `OR A` (R192). -/
def exec_or_A (s : State) : Out := aluR8 .or (.reg .a) s

/-- `CP B` (R194). -/
def exec_cp_B (s : State) : Out := aluR8 .cp (.reg .b) s

/-- `CP C` (R194). -/
def exec_cp_C (s : State) : Out := aluR8 .cp (.reg .c) s

/-- `CP D` (R194). -/
def exec_cp_D (s : State) : Out := aluR8 .cp (.reg .d) s

/-- `CP E` (R194). -/
def exec_cp_E (s : State) : Out := aluR8 .cp (.reg .e) s

/-- `CP H` (R194). -/
def exec_cp_H (s : State) : Out := aluR8 .cp (.reg .h) s

/-- `CP L` (R194). -/
def exec_cp_L (s : State) : Out := aluR8 .cp (.reg .l) s

/-- `CP (HL)` (R194). -/
def exec_cp_indHL (s : State) : Out := aluR8 .cp .indHL s

/-- `CP A` (R194). -/
def exec_cp_A (s : State) : Out := aluR8 .cp (.reg .a) s

/-- `ADD A,n8` (R181). -/
def exec_add_A_n8 (n : Byte) (s : State) : Out := aluImm .add n s

/-- `ADC A,n8` (R183). -/
def exec_adc_A_n8 (n : Byte) (s : State) : Out := aluImm .adc n s

/-- `SUB n8` (R185). -/
def exec_sub_n8 (n : Byte) (s : State) : Out := aluImm .sub n s

/-- `SBC A,n8` (R187). -/
def exec_sbc_A_n8 (n : Byte) (s : State) : Out := aluImm .sbc n s

/-- `AND n8` (R189). -/
def exec_and_n8 (n : Byte) (s : State) : Out := aluImm .and n s

/-- `ADD SP,e8` (R203). -/
def exec_add_SP_e8 (e : Byte) (s : State) : Out :=
  let r := addsp s.sp e
  finish (s.pc + 2) (s.cycles 0xE8 16) ((s.setSP r.result).setFlags false false r.half r.carry)

/-- `XOR n8` (R191). -/
def exec_xor_n8 (n : Byte) (s : State) : Out := aluImm .xor n s

/-- `OR n8` (R193). -/
def exec_or_n8 (n : Byte) (s : State) : Out := aluImm .or n s

/-- `CP n8` (R195). -/
def exec_cp_n8 (n : Byte) (s : State) : Out := aluImm .cp n s

end Sys2Proof.Machine
end

