-- ==== Sys2Proof/Machine/ControlFlow.lean ====
section
/-! DEFINITION. Control flow and stack instructions (spec/44_control_flow.md R240 to R256): the shared operations,
then one definition for each instruction. In every one `s.pc` is the address of the instruction's first byte, and a
transfer `Jump(t)` ends the instruction with PC = t (log entries 10 and 12). -/

namespace Sys2Proof.Machine

/-- The target of a relative jump: `addr + 2 + sext_16(e8)` (R246). -/
def relTarget (addr : Word) (e : Byte) : Word := addr + 2 + sext16 e

/-- `CALL`: push the address after the instruction, then jump (R248). -/
def callTo (target : Word) (cycles : Nat) (s : State) : Out :=
  (push16 (s.pc + 3) (s.fetched 1)).andThen fun _ t => finish target cycles t

/-- Pop PC (R250, R251). -/
def returnIn (cycles : Nat) (s : State) : Out :=
  (pop16 (s.fetched 1)).andThen fun target t => finish target cycles t

/-- `JP cc,n16` (R244). -/
def jpCond (cc : Cond) (n : Word) (s : State) : Out :=
  if s.cond cc then finish n (s.cycles (0xC2 + 8 * cc.code) 16) s
  else finish (s.pc + 3) (s.cyclesNotTaken (0xC2 + 8 * cc.code) 12) s

/-- `JR cc,e8` (R247). -/
def jrCond (cc : Cond) (e : Byte) (s : State) : Out :=
  if s.cond cc then finish (relTarget s.pc e) (s.cycles (0x20 + 8 * cc.code) 12) s
  else finish (s.pc + 2) (s.cyclesNotTaken (0x20 + 8 * cc.code) 8) s

/-- `CALL cc,n16` (R249). -/
def callCond (cc : Cond) (n : Word) (s : State) : Out :=
  if s.cond cc then callTo n (s.cycles (0xC4 + 8 * cc.code) 24) s
  else finish (s.pc + 3) (s.cyclesNotTaken (0xC4 + 8 * cc.code) 12) s

/-- `RET cc` (R251): not taken, it reads no memory and leaves SP unchanged. -/
def retCond (cc : Cond) (s : State) : Out :=
  if s.cond cc then returnIn (s.cycles (0xC0 + 8 * cc.code) 20) s
  else finish (s.pc + 1) (s.cyclesNotTaken (0xC0 + 8 * cc.code) 8) s

/-- `PUSH rr` (R253). -/
def pushPair (p : StackPair) (s : State) : Out :=
  (push16 (s.stackPair p) (s.fetched 1)).andThen fun _ t => finish (s.pc + 1) (s.cycles (0xC5 + 16 * p.code) 16) t

/-- `POP rr` (R254, R255). -/
def popPair (p : StackPair) (s : State) : Out :=
  (pop16 (s.fetched 1)).andThen fun v t =>
    finish (s.pc + 1) (s.cycles (0xC1 + 16 * p.code) 12) (t.setStackPair p v)

/-- `RST t`: push the address after the instruction, then jump to y * 8 (R256). -/
def restart (y : Fin 8) (s : State) : Out :=
  (push16 (s.pc + 1) (s.fetched 1)).andThen fun _ t =>
    finish (BitVec.ofNat 16 (y.val * 8)) (s.cycles (0xC7 + 8 * y.val) 16) t

/-- `JR e8` (R246). -/
def exec_jr_e8 (e : Byte) (s : State) : Out := finish (relTarget s.pc e) (s.cycles 0x18 12) s

/-- `JR NZ,e8` (R247). -/
def exec_jr_NZ_e8 (e : Byte) (s : State) : Out := jrCond .nz e s

/-- `JR Z,e8` (R247). -/
def exec_jr_Z_e8 (e : Byte) (s : State) : Out := jrCond .z e s

/-- `JR NC,e8` (R247). -/
def exec_jr_NC_e8 (e : Byte) (s : State) : Out := jrCond .nc e s

/-- `JR C,e8` (R247). -/
def exec_jr_C_e8 (e : Byte) (s : State) : Out := jrCond .c e s

/-- `RET NZ` (R251). -/
def exec_ret_NZ (s : State) : Out := retCond .nz s

/-- `POP BC` (R254). -/
def exec_pop_BC (s : State) : Out := popPair .bc s

/-- `JP NZ,n16` (R244). -/
def exec_jp_NZ_n16 (n : Word) (s : State) : Out := jpCond .nz n s

/-- `JP n16` (R243). -/
def exec_jp_n16 (n : Word) (s : State) : Out := finish n (s.cycles 0xC3 16) s

/-- `CALL NZ,n16` (R249). -/
def exec_call_NZ_n16 (n : Word) (s : State) : Out := callCond .nz n s

/-- `PUSH BC` (R253). -/
def exec_push_BC (s : State) : Out := pushPair .bc s

/-- `RST 0x00` (R256). -/
def exec_rst_00 (s : State) : Out := restart 0 s

/-- `RET Z` (R251). -/
def exec_ret_Z (s : State) : Out := retCond .z s

/-- `RET` (R250). -/
def exec_ret (s : State) : Out := returnIn (s.cycles 0xC9 16) s

/-- `JP Z,n16` (R244). -/
def exec_jp_Z_n16 (n : Word) (s : State) : Out := jpCond .z n s

/-- `CALL Z,n16` (R249). -/
def exec_call_Z_n16 (n : Word) (s : State) : Out := callCond .z n s

/-- `CALL n16` (R248). -/
def exec_call_n16 (n : Word) (s : State) : Out := callTo n (s.cycles 0xCD 24) s

/-- `RST 0x08` (R256). -/
def exec_rst_08 (s : State) : Out := restart 1 s

/-- `RET NC` (R251). -/
def exec_ret_NC (s : State) : Out := retCond .nc s

/-- `POP DE` (R254). -/
def exec_pop_DE (s : State) : Out := popPair .de s

/-- `JP NC,n16` (R244). -/
def exec_jp_NC_n16 (n : Word) (s : State) : Out := jpCond .nc n s

/-- `CALL NC,n16` (R249). -/
def exec_call_NC_n16 (n : Word) (s : State) : Out := callCond .nc n s

/-- `PUSH DE` (R253). -/
def exec_push_DE (s : State) : Out := pushPair .de s

/-- `RST 0x10` (R256). -/
def exec_rst_10 (s : State) : Out := restart 2 s

/-- `RET C` (R251). -/
def exec_ret_C (s : State) : Out := retCond .c s

/-- `RETI` (R252). -/
def exec_reti (s : State) : Out :=
  (pop16 (s.fetched 1)).andThen fun target t =>
    finish target (s.cycles 0xD9 16) { t with ime := true }

/-- `JP C,n16` (R244). -/
def exec_jp_C_n16 (n : Word) (s : State) : Out := jpCond .c n s

/-- `CALL C,n16` (R249). -/
def exec_call_C_n16 (n : Word) (s : State) : Out := callCond .c n s

/-- `RST 0x18` (R256). -/
def exec_rst_18 (s : State) : Out := restart 3 s

/-- `POP HL` (R254). -/
def exec_pop_HL (s : State) : Out := popPair .hl s

/-- `PUSH HL` (R253). -/
def exec_push_HL (s : State) : Out := pushPair .hl s

/-- `RST 0x20` (R256). -/
def exec_rst_20 (s : State) : Out := restart 4 s

/-- `JP HL` (R245). -/
def exec_jp_HL (s : State) : Out := finish s.hl (s.cycles 0xE9 4) s

/-- `RST 0x28` (R256). -/
def exec_rst_28 (s : State) : Out := restart 5 s

/-- `POP AF` (R255). -/
def exec_pop_AF (s : State) : Out := popPair .af s

/-- `PUSH AF` (R253). -/
def exec_push_AF (s : State) : Out := pushPair .af s

/-- `RST 0x30` (R256). -/
def exec_rst_30 (s : State) : Out := restart 6 s

/-- `RST 0x38` (R256). -/
def exec_rst_38 (s : State) : Out := restart 7 s

end Sys2Proof.Machine
end

