-- ==== Sys2Proof/Machine/Load.lean ====
section
/-! DEFINITION. Loads, stores and moves (spec/41_loads.md R150 to R170): the shared operations, then one definition
for each instruction. In every one `s.pc` is the address of the instruction's first byte (log entry 12). -/

namespace Sys2Proof.Machine

/-- `LD r,r'` (R150). -/
def ldRegReg (dst src : Reg8) (s : State) : Out :=
  finish (s.pc + 1) (s.cycles (0x40 + 8 * dst.code + src.code) 4) (s.setReg dst (s.reg src))

/-- `LD r,(HL)` (R151). -/
def ldRegInd (dst : Reg8) (s : State) : Out :=
  (readByte s.hl (s.fetched 1)).andThen fun v t =>
    finish (s.pc + 1) (s.cycles (0x46 + 8 * dst.code) 8) (t.setReg dst v)

/-- `LD (HL),r` (R152). -/
def ldIndReg (r : Reg8) (s : State) : Out :=
  (writeByte s.hl (s.reg r) (s.fetched 1)).andThen fun _ t => finish (s.pc + 1) (s.cycles (0x70 + r.code) 8) t

/-- `LD r,n8` (R153). -/
def ldRegImm (dst : Reg8) (n : Byte) (s : State) : Out :=
  finish (s.pc + 2) (s.cycles (0x06 + 8 * dst.code) 8) (s.setReg dst n)

/-- `LD A,(BC)` / `LD A,(DE)` (R155). -/
def ldAPair (p : AddrPair) (s : State) : Out :=
  (readByte (s.addrPair p) (s.fetched 1)).andThen fun v t =>
    finish (s.pc + 1) (s.cycles (0x0A + 16 * p.code) 8) (t.setReg .a v)

/-- `LD (BC),A` / `LD (DE),A` (R156). -/
def ldPairA (p : AddrPair) (s : State) : Out :=
  (writeByte (s.addrPair p) s.a (s.fetched 1)).andThen fun _ t =>
    finish (s.pc + 1) (s.cycles (0x02 + 16 * p.code) 8) t

/-- `0xFF00 + x`: the high page (R159 to R162). -/
def highPage (x : Byte) : Word := 0xFF00#16 + x.setWidth 16

/-- Load A from an address named by an immediate or by C (R157, R159, R161). -/
def ldAFrom (addr : Word) (len : Word) (cycles : Nat) (s : State) : Out :=
  (readByte addr (s.fetched 1)).andThen fun v t => finish (s.pc + len) cycles (t.setReg .a v)

/-- Store A to an address named by an immediate or by C (R158, R160, R162). -/
def ldToA (addr : Word) (len : Word) (cycles : Nat) (s : State) : Out :=
  (writeByte addr s.a (s.fetched 1)).andThen fun _ t => finish (s.pc + len) cycles t

/-- `LD (HL+),A` / `LD (HL-),A`: store A, then move HL (R163, R164). -/
def ldIndStepA (step : Word) (cycles : Nat) (s : State) : Out :=
  (writeByte s.hl s.a (s.fetched 1)).andThen fun _ t => finish (s.pc + 1) cycles (t.setHL (s.hl + step))

/-- `LD A,(HL+)` / `LD A,(HL-)`: load A, then move HL (R165, R166). -/
def ldAIndStep (step : Word) (cycles : Nat) (s : State) : Out :=
  (readByte s.hl (s.fetched 1)).andThen fun v t => finish (s.pc + 1) cycles ((t.setReg .a v).setHL (s.hl + step))

/-- `LD rr,n16` (R167). -/
def ldPairImm (p : Pair) (n : Word) (s : State) : Out :=
  finish (s.pc + 3) (s.cycles (0x01 + 16 * p.code) 12) (s.setPair p n)

/-- `LD BC,n16` (R167). -/
def exec_ld_BC_n16 (n : Word) (s : State) : Out := ldPairImm .bc n s

/-- `LD (BC),A` (R156). -/
def exec_ld_indBC_A (s : State) : Out := ldPairA .bc s

/-- `LD B,n8` (R153). -/
def exec_ld_B_n8 (n : Byte) (s : State) : Out := ldRegImm .b n s

/-- `LD (n16),SP` (R168). -/
def exec_ld_indN16_SP (n : Word) (s : State) : Out :=
  (writeWord n s.sp (s.fetched 1)).andThen fun _ t => finish (s.pc + 3) (s.cycles 0x08 20) t

/-- `LD A,(BC)` (R155). -/
def exec_ld_A_indBC (s : State) : Out := ldAPair .bc s

/-- `LD C,n8` (R153). -/
def exec_ld_C_n8 (n : Byte) (s : State) : Out := ldRegImm .c n s

/-- `LD DE,n16` (R167). -/
def exec_ld_DE_n16 (n : Word) (s : State) : Out := ldPairImm .de n s

/-- `LD (DE),A` (R156). -/
def exec_ld_indDE_A (s : State) : Out := ldPairA .de s

/-- `LD D,n8` (R153). -/
def exec_ld_D_n8 (n : Byte) (s : State) : Out := ldRegImm .d n s

/-- `LD A,(DE)` (R155). -/
def exec_ld_A_indDE (s : State) : Out := ldAPair .de s

/-- `LD E,n8` (R153). -/
def exec_ld_E_n8 (n : Byte) (s : State) : Out := ldRegImm .e n s

/-- `LD HL,n16` (R167). -/
def exec_ld_HL_n16 (n : Word) (s : State) : Out := ldPairImm .hl n s

/-- `LD (HL+),A` (R163). -/
def exec_ld_indHLinc_A (s : State) : Out := ldIndStepA 1 (s.cycles 0x22 8) s

/-- `LD H,n8` (R153). -/
def exec_ld_H_n8 (n : Byte) (s : State) : Out := ldRegImm .h n s

/-- `LD A,(HL+)` (R165). -/
def exec_ld_A_indHLinc (s : State) : Out := ldAIndStep 1 (s.cycles 0x2A 8) s

/-- `LD L,n8` (R153). -/
def exec_ld_L_n8 (n : Byte) (s : State) : Out := ldRegImm .l n s

/-- `LD SP,n16` (R167). -/
def exec_ld_SP_n16 (n : Word) (s : State) : Out := ldPairImm .sp n s

/-- `LD (HL-),A` (R164). -/
def exec_ld_indHLdec_A (s : State) : Out := ldIndStepA (-1) (s.cycles 0x32 8) s

/-- `LD (HL),n8` (R154). -/
def exec_ld_indHL_n8 (n : Byte) (s : State) : Out :=
  (writeByte s.hl n (s.fetched 1)).andThen fun _ t => finish (s.pc + 2) (s.cycles 0x36 12) t

/-- `LD A,(HL-)` (R166). -/
def exec_ld_A_indHLdec (s : State) : Out := ldAIndStep (-1) (s.cycles 0x3A 8) s

/-- `LD A,n8` (R153). -/
def exec_ld_A_n8 (n : Byte) (s : State) : Out := ldRegImm .a n s

/-- `LD B,B` (R150). -/
def exec_ld_B_B (s : State) : Out := ldRegReg .b .b s

/-- `LD B,C` (R150). -/
def exec_ld_B_C (s : State) : Out := ldRegReg .b .c s

/-- `LD B,D` (R150). -/
def exec_ld_B_D (s : State) : Out := ldRegReg .b .d s

/-- `LD B,E` (R150). -/
def exec_ld_B_E (s : State) : Out := ldRegReg .b .e s

/-- `LD B,H` (R150). -/
def exec_ld_B_H (s : State) : Out := ldRegReg .b .h s

/-- `LD B,L` (R150). -/
def exec_ld_B_L (s : State) : Out := ldRegReg .b .l s

/-- `LD B,(HL)` (R151). -/
def exec_ld_B_indHL (s : State) : Out := ldRegInd .b s

/-- `LD B,A` (R150). -/
def exec_ld_B_A (s : State) : Out := ldRegReg .b .a s

/-- `LD C,B` (R150). -/
def exec_ld_C_B (s : State) : Out := ldRegReg .c .b s

/-- `LD C,C` (R150). -/
def exec_ld_C_C (s : State) : Out := ldRegReg .c .c s

/-- `LD C,D` (R150). -/
def exec_ld_C_D (s : State) : Out := ldRegReg .c .d s

/-- `LD C,E` (R150). -/
def exec_ld_C_E (s : State) : Out := ldRegReg .c .e s

/-- `LD C,H` (R150). -/
def exec_ld_C_H (s : State) : Out := ldRegReg .c .h s

/-- `LD C,L` (R150). -/
def exec_ld_C_L (s : State) : Out := ldRegReg .c .l s

/-- `LD C,(HL)` (R151). -/
def exec_ld_C_indHL (s : State) : Out := ldRegInd .c s

/-- `LD C,A` (R150). -/
def exec_ld_C_A (s : State) : Out := ldRegReg .c .a s

/-- `LD D,B` (R150). -/
def exec_ld_D_B (s : State) : Out := ldRegReg .d .b s

/-- `LD D,C` (R150). -/
def exec_ld_D_C (s : State) : Out := ldRegReg .d .c s

/-- `LD D,D` (R150). -/
def exec_ld_D_D (s : State) : Out := ldRegReg .d .d s

/-- `LD D,E` (R150). -/
def exec_ld_D_E (s : State) : Out := ldRegReg .d .e s

/-- `LD D,H` (R150). -/
def exec_ld_D_H (s : State) : Out := ldRegReg .d .h s

/-- `LD D,L` (R150). -/
def exec_ld_D_L (s : State) : Out := ldRegReg .d .l s

/-- `LD D,(HL)` (R151). -/
def exec_ld_D_indHL (s : State) : Out := ldRegInd .d s

/-- `LD D,A` (R150). -/
def exec_ld_D_A (s : State) : Out := ldRegReg .d .a s

/-- `LD E,B` (R150). -/
def exec_ld_E_B (s : State) : Out := ldRegReg .e .b s

/-- `LD E,C` (R150). -/
def exec_ld_E_C (s : State) : Out := ldRegReg .e .c s

/-- `LD E,D` (R150). -/
def exec_ld_E_D (s : State) : Out := ldRegReg .e .d s

/-- `LD E,E` (R150). -/
def exec_ld_E_E (s : State) : Out := ldRegReg .e .e s

/-- `LD E,H` (R150). -/
def exec_ld_E_H (s : State) : Out := ldRegReg .e .h s

/-- `LD E,L` (R150). -/
def exec_ld_E_L (s : State) : Out := ldRegReg .e .l s

/-- `LD E,(HL)` (R151). -/
def exec_ld_E_indHL (s : State) : Out := ldRegInd .e s

/-- `LD E,A` (R150). -/
def exec_ld_E_A (s : State) : Out := ldRegReg .e .a s

/-- `LD H,B` (R150). -/
def exec_ld_H_B (s : State) : Out := ldRegReg .h .b s

/-- `LD H,C` (R150). -/
def exec_ld_H_C (s : State) : Out := ldRegReg .h .c s

/-- `LD H,D` (R150). -/
def exec_ld_H_D (s : State) : Out := ldRegReg .h .d s

/-- `LD H,E` (R150). -/
def exec_ld_H_E (s : State) : Out := ldRegReg .h .e s

/-- `LD H,H` (R150). -/
def exec_ld_H_H (s : State) : Out := ldRegReg .h .h s

/-- `LD H,L` (R150). -/
def exec_ld_H_L (s : State) : Out := ldRegReg .h .l s

/-- `LD H,(HL)` (R151). -/
def exec_ld_H_indHL (s : State) : Out := ldRegInd .h s

/-- `LD H,A` (R150). -/
def exec_ld_H_A (s : State) : Out := ldRegReg .h .a s

/-- `LD L,B` (R150). -/
def exec_ld_L_B (s : State) : Out := ldRegReg .l .b s

/-- `LD L,C` (R150). -/
def exec_ld_L_C (s : State) : Out := ldRegReg .l .c s

/-- `LD L,D` (R150). -/
def exec_ld_L_D (s : State) : Out := ldRegReg .l .d s

/-- `LD L,E` (R150). -/
def exec_ld_L_E (s : State) : Out := ldRegReg .l .e s

/-- `LD L,H` (R150). -/
def exec_ld_L_H (s : State) : Out := ldRegReg .l .h s

/-- `LD L,L` (R150). -/
def exec_ld_L_L (s : State) : Out := ldRegReg .l .l s

/-- `LD L,(HL)` (R151). -/
def exec_ld_L_indHL (s : State) : Out := ldRegInd .l s

/-- `LD L,A` (R150). -/
def exec_ld_L_A (s : State) : Out := ldRegReg .l .a s

/-- `LD (HL),B` (R152). -/
def exec_ld_indHL_B (s : State) : Out := ldIndReg .b s

/-- `LD (HL),C` (R152). -/
def exec_ld_indHL_C (s : State) : Out := ldIndReg .c s

/-- `LD (HL),D` (R152). -/
def exec_ld_indHL_D (s : State) : Out := ldIndReg .d s

/-- `LD (HL),E` (R152). -/
def exec_ld_indHL_E (s : State) : Out := ldIndReg .e s

/-- `LD (HL),H` (R152). -/
def exec_ld_indHL_H (s : State) : Out := ldIndReg .h s

/-- `LD (HL),L` (R152). -/
def exec_ld_indHL_L (s : State) : Out := ldIndReg .l s

/-- `LD (HL),A` (R152). -/
def exec_ld_indHL_A (s : State) : Out := ldIndReg .a s

/-- `LD A,B` (R150). -/
def exec_ld_A_B (s : State) : Out := ldRegReg .a .b s

/-- `LD A,C` (R150). -/
def exec_ld_A_C (s : State) : Out := ldRegReg .a .c s

/-- `LD A,D` (R150). -/
def exec_ld_A_D (s : State) : Out := ldRegReg .a .d s

/-- `LD A,E` (R150). -/
def exec_ld_A_E (s : State) : Out := ldRegReg .a .e s

/-- `LD A,H` (R150). -/
def exec_ld_A_H (s : State) : Out := ldRegReg .a .h s

/-- `LD A,L` (R150). -/
def exec_ld_A_L (s : State) : Out := ldRegReg .a .l s

/-- `LD A,(HL)` (R151). -/
def exec_ld_A_indHL (s : State) : Out := ldRegInd .a s

/-- `LD A,A` (R150). -/
def exec_ld_A_A (s : State) : Out := ldRegReg .a .a s

/-- `LDH (n8),A` (R160). -/
def exec_ldh_indN8_A (n : Byte) (s : State) : Out := ldToA (highPage n) 2 (s.cycles 0xE0 12) s

/-- `LD (C),A` (R162). -/
def exec_ld_indC_A (s : State) : Out := ldToA (highPage s.c) 1 (s.cycles 0xE2 8) s

/-- `LD (n16),A` (R158). -/
def exec_ld_indN16_A (n : Word) (s : State) : Out := ldToA n 3 (s.cycles 0xEA 16) s

/-- `LDH A,(n8)` (R159). -/
def exec_ldh_A_indN8 (n : Byte) (s : State) : Out := ldAFrom (highPage n) 2 (s.cycles 0xF0 12) s

/-- `LD A,(C)` (R161). -/
def exec_ld_A_indC (s : State) : Out := ldAFrom (highPage s.c) 1 (s.cycles 0xF2 8) s

/-- `LD HL,SP+e8` (R170). -/
def exec_ld_HL_SPe8 (e : Byte) (s : State) : Out :=
  let r := addsp s.sp e
  finish (s.pc + 2) (s.cycles 0xF8 12) ((s.setHL r.result).setFlags false false r.half r.carry)

/-- `LD SP,HL` (R169). -/
def exec_ld_SP_HL (s : State) : Out := finish (s.pc + 1) (s.cycles 0xF9 8) (s.setSP s.hl)

/-- `LD A,(n16)` (R157). -/
def exec_ld_A_indN16 (n : Word) (s : State) : Out := ldAFrom n 3 (s.cycles 0xFA 16) s

end Sys2Proof.Machine
end

