-- ==== Sys2Proof/Machine/Misc.lean ====
section
/-! DEFINITION. Miscellaneous and CPU-control instructions (spec/45_misc.md R270 to R278) and the eleven unassigned
codes (spec/30_encoding.md R114): the shared operations, then one definition for each instruction. In every one
`s.pc` is the address of the instruction's first byte (log entry 12). -/

namespace Sys2Proof.Machine

/-- `stop <reason>`: the step completes (PC update, tick, cycles) and the run ends without a fault (R277, R278). -/
def endRun (r : StopReason) (len : Word) (cycles : Nat) (s : State) : Out :=
  finish (s.pc + len) cycles { s with status := .stopped r }

/-- An unassigned code: `IllegalOpcode(addr, code)` at decode; the fetch-time advance stays (R103, R114). -/
def illegalCode (code : Word) (s : State) : Out :=
  .fault (raise (.illegalOpcode s.pc code) (s.fetched 1))

/-- `NOP` (R270). -/
def exec_nop (s : State) : Out := finish (s.pc + 1) (s.cycles 0x00 4) s

/-- `STOP` (R278). -/
def exec_stop (s : State) : Out := endRun .stop 2 (s.cycles 0x10 4) s

/-- `DAA` (R271). -/
def exec_daa (s : State) : Out :=
  let r := decimalAdjust s.a s.flagN s.flagH s.flagC
  finish (s.pc + 1) (s.cycles 0x27 4) ((s.setReg .a r.1).setFlags (r.1 == 0x00#8) s.flagN false r.2)

/-- `CPL` (R272). -/
def exec_cpl (s : State) : Out :=
  finish (s.pc + 1) (s.cycles 0x2F 4) ((s.setReg .a (s.a ^^^ 0xFF#8)).setFlags s.flagZ true true s.flagC)

/-- `SCF` (R273). -/
def exec_scf (s : State) : Out :=
  finish (s.pc + 1) (s.cycles 0x37 4) (s.setFlags s.flagZ false false true)

/-- `CCF` (R274). -/
def exec_ccf (s : State) : Out :=
  finish (s.pc + 1) (s.cycles 0x3F 4) (s.setFlags s.flagZ false false (!s.flagC))

/-- `HALT` (R277). -/
def exec_halt (s : State) : Out := endRun .halt 1 (s.cycles 0x76 4) s

/-- `DI` (R275). -/
def exec_di (s : State) : Out := finish (s.pc + 1) (s.cycles 0xF3 4) { s with ime := false }

/-- `EI` (R276). -/
def exec_ei (s : State) : Out := finish (s.pc + 1) (s.cycles 0xFB 4) { s with ime := true }

/-- The unassigned code 0xD3 (R114). -/
def exec_illegal_D3 (s : State) : Out := illegalCode 0x00D3#16 s

/-- The unassigned code 0xDB (R114). -/
def exec_illegal_DB (s : State) : Out := illegalCode 0x00DB#16 s

/-- The unassigned code 0xDD (R114). -/
def exec_illegal_DD (s : State) : Out := illegalCode 0x00DD#16 s

/-- The unassigned code 0xE3 (R114). -/
def exec_illegal_E3 (s : State) : Out := illegalCode 0x00E3#16 s

/-- The unassigned code 0xE4 (R114). -/
def exec_illegal_E4 (s : State) : Out := illegalCode 0x00E4#16 s

/-- The unassigned code 0xEB (R114). -/
def exec_illegal_EB (s : State) : Out := illegalCode 0x00EB#16 s

/-- The unassigned code 0xEC (R114). -/
def exec_illegal_EC (s : State) : Out := illegalCode 0x00EC#16 s

/-- The unassigned code 0xED (R114). -/
def exec_illegal_ED (s : State) : Out := illegalCode 0x00ED#16 s

/-- The unassigned code 0xF4 (R114). -/
def exec_illegal_F4 (s : State) : Out := illegalCode 0x00F4#16 s

/-- The unassigned code 0xFC (R114). -/
def exec_illegal_FC (s : State) : Out := illegalCode 0x00FC#16 s

/-- The unassigned code 0xFD (R114). -/
def exec_illegal_FD (s : State) : Out := illegalCode 0x00FD#16 s

end Sys2Proof.Machine
end

