-- ==== Sys2Proof/Machine/RotateShift.lean ====
section
/-! DEFINITION. Rotates, shifts and bit instructions (spec/43_rotate_shift_bit.md R210 to R225): the shared operations,
then one definition for each instruction. In every one `s.pc` is the address of the instruction's first byte
(log entry 12). -/

namespace Sys2Proof.Machine

/-- The accumulator rotates: flags `0 0 0 C` (R210 to R213). -/
def rotA (op : RotOp) (s : State) : Out :=
  let r := rotShift op s.a s.flagC
  finish (s.pc + 1) (s.cycles (0x07 + 8 * op.code) 4) ((s.setReg .a r.1).setFlags false false false r.2)

/-- The CB rotates and shifts: read, write, then the flags `Z 0 0 C` (R214 to R222). -/
def rotR8 (op : RotOp) (o : R8) (s : State) : Out :=
  (readR8 o (s.fetched 2)).andThen fun v t =>
    let r := rotShift op v s.flagC
    (writeR8 o r.1 t).andThen fun _ u =>
      finish (s.pc + 2) (s.cycles (0xCB00 + 8 * op.code + o.code) (r8Cycles o 8 16))
        (u.setFlags (r.1 == 0x00#8) false false r.2)

/-- `BIT b,r8`: a read only; flags `Z 0 1 -` (R223). -/
def bitR8 (y : Fin 8) (o : R8) (s : State) : Out :=
  (readR8 o (s.fetched 2)).andThen fun v t =>
    finish (s.pc + 2) (s.cycles (0xCB40 + 8 * y.val + o.code) (r8Cycles o 8 12))
      (t.setFlags (!v.getLsbD y.val) false true s.flagC)

/-- `RES b,r8` (R224). -/
def resR8 (y : Fin 8) (o : R8) (s : State) : Out :=
  (readR8 o (s.fetched 2)).andThen fun v t =>
    (writeR8 o (v &&& ~~~(bitMask y)) t).andThen fun _ u =>
      finish (s.pc + 2) (s.cycles (0xCB80 + 8 * y.val + o.code) (r8Cycles o 8 16)) u

/-- `SET b,r8` (R225). -/
def setR8 (y : Fin 8) (o : R8) (s : State) : Out :=
  (readR8 o (s.fetched 2)).andThen fun v t =>
    (writeR8 o (v ||| bitMask y) t).andThen fun _ u =>
      finish (s.pc + 2) (s.cycles (0xCBC0 + 8 * y.val + o.code) (r8Cycles o 8 16)) u

/-- `RLCA` (R210). -/
def exec_rlca (s : State) : Out := rotA .rlc s

/-- `RRCA` (R211). -/
def exec_rrca (s : State) : Out := rotA .rrc s

/-- `RLA` (R212). -/
def exec_rla (s : State) : Out := rotA .rl s

/-- `RRA` (R213). -/
def exec_rra (s : State) : Out := rotA .rr s

/-- `RLC B` (R215). -/
def exec_rlc_B (s : State) : Out := rotR8 .rlc (.reg .b) s

/-- `RLC C` (R215). -/
def exec_rlc_C (s : State) : Out := rotR8 .rlc (.reg .c) s

/-- `RLC D` (R215). -/
def exec_rlc_D (s : State) : Out := rotR8 .rlc (.reg .d) s

/-- `RLC E` (R215). -/
def exec_rlc_E (s : State) : Out := rotR8 .rlc (.reg .e) s

/-- `RLC H` (R215). -/
def exec_rlc_H (s : State) : Out := rotR8 .rlc (.reg .h) s

/-- `RLC L` (R215). -/
def exec_rlc_L (s : State) : Out := rotR8 .rlc (.reg .l) s

/-- `RLC (HL)` (R215). -/
def exec_rlc_indHL (s : State) : Out := rotR8 .rlc .indHL s

/-- `RLC A` (R215). -/
def exec_rlc_A (s : State) : Out := rotR8 .rlc (.reg .a) s

/-- `RRC B` (R216). -/
def exec_rrc_B (s : State) : Out := rotR8 .rrc (.reg .b) s

/-- `RRC C` (R216). -/
def exec_rrc_C (s : State) : Out := rotR8 .rrc (.reg .c) s

/-- `RRC D` (R216). -/
def exec_rrc_D (s : State) : Out := rotR8 .rrc (.reg .d) s

/-- `RRC E` (R216). -/
def exec_rrc_E (s : State) : Out := rotR8 .rrc (.reg .e) s

/-- `RRC H` (R216). -/
def exec_rrc_H (s : State) : Out := rotR8 .rrc (.reg .h) s

/-- `RRC L` (R216). -/
def exec_rrc_L (s : State) : Out := rotR8 .rrc (.reg .l) s

/-- `RRC (HL)` (R216). -/
def exec_rrc_indHL (s : State) : Out := rotR8 .rrc .indHL s

/-- `RRC A` (R216). -/
def exec_rrc_A (s : State) : Out := rotR8 .rrc (.reg .a) s

/-- `RL B` (R217). -/
def exec_rl_B (s : State) : Out := rotR8 .rl (.reg .b) s

/-- `RL C` (R217). -/
def exec_rl_C (s : State) : Out := rotR8 .rl (.reg .c) s

/-- `RL D` (R217). -/
def exec_rl_D (s : State) : Out := rotR8 .rl (.reg .d) s

/-- `RL E` (R217). -/
def exec_rl_E (s : State) : Out := rotR8 .rl (.reg .e) s

/-- `RL H` (R217). -/
def exec_rl_H (s : State) : Out := rotR8 .rl (.reg .h) s

/-- `RL L` (R217). -/
def exec_rl_L (s : State) : Out := rotR8 .rl (.reg .l) s

/-- `RL (HL)` (R217). -/
def exec_rl_indHL (s : State) : Out := rotR8 .rl .indHL s

/-- `RL A` (R217). -/
def exec_rl_A (s : State) : Out := rotR8 .rl (.reg .a) s

/-- `RR B` (R218). -/
def exec_rr_B (s : State) : Out := rotR8 .rr (.reg .b) s

/-- `RR C` (R218). -/
def exec_rr_C (s : State) : Out := rotR8 .rr (.reg .c) s

/-- `RR D` (R218). -/
def exec_rr_D (s : State) : Out := rotR8 .rr (.reg .d) s

/-- `RR E` (R218). -/
def exec_rr_E (s : State) : Out := rotR8 .rr (.reg .e) s

/-- `RR H` (R218). -/
def exec_rr_H (s : State) : Out := rotR8 .rr (.reg .h) s

/-- `RR L` (R218). -/
def exec_rr_L (s : State) : Out := rotR8 .rr (.reg .l) s

/-- `RR (HL)` (R218). -/
def exec_rr_indHL (s : State) : Out := rotR8 .rr .indHL s

/-- `RR A` (R218). -/
def exec_rr_A (s : State) : Out := rotR8 .rr (.reg .a) s

/-- `SLA B` (R219). -/
def exec_sla_B (s : State) : Out := rotR8 .sla (.reg .b) s

/-- `SLA C` (R219). -/
def exec_sla_C (s : State) : Out := rotR8 .sla (.reg .c) s

/-- `SLA D` (R219). -/
def exec_sla_D (s : State) : Out := rotR8 .sla (.reg .d) s

/-- `SLA E` (R219). -/
def exec_sla_E (s : State) : Out := rotR8 .sla (.reg .e) s

/-- `SLA H` (R219). -/
def exec_sla_H (s : State) : Out := rotR8 .sla (.reg .h) s

/-- `SLA L` (R219). -/
def exec_sla_L (s : State) : Out := rotR8 .sla (.reg .l) s

/-- `SLA (HL)` (R219). -/
def exec_sla_indHL (s : State) : Out := rotR8 .sla .indHL s

/-- `SLA A` (R219). -/
def exec_sla_A (s : State) : Out := rotR8 .sla (.reg .a) s

/-- `SRA B` (R220). -/
def exec_sra_B (s : State) : Out := rotR8 .sra (.reg .b) s

/-- `SRA C` (R220). -/
def exec_sra_C (s : State) : Out := rotR8 .sra (.reg .c) s

/-- `SRA D` (R220). -/
def exec_sra_D (s : State) : Out := rotR8 .sra (.reg .d) s

/-- `SRA E` (R220). -/
def exec_sra_E (s : State) : Out := rotR8 .sra (.reg .e) s

/-- `SRA H` (R220). -/
def exec_sra_H (s : State) : Out := rotR8 .sra (.reg .h) s

/-- `SRA L` (R220). -/
def exec_sra_L (s : State) : Out := rotR8 .sra (.reg .l) s

/-- `SRA (HL)` (R220). -/
def exec_sra_indHL (s : State) : Out := rotR8 .sra .indHL s

/-- `SRA A` (R220). -/
def exec_sra_A (s : State) : Out := rotR8 .sra (.reg .a) s

/-- `SWAP B` (R221). -/
def exec_swap_B (s : State) : Out := rotR8 .swap (.reg .b) s

/-- `SWAP C` (R221). -/
def exec_swap_C (s : State) : Out := rotR8 .swap (.reg .c) s

/-- `SWAP D` (R221). -/
def exec_swap_D (s : State) : Out := rotR8 .swap (.reg .d) s

/-- `SWAP E` (R221). -/
def exec_swap_E (s : State) : Out := rotR8 .swap (.reg .e) s

/-- `SWAP H` (R221). -/
def exec_swap_H (s : State) : Out := rotR8 .swap (.reg .h) s

/-- `SWAP L` (R221). -/
def exec_swap_L (s : State) : Out := rotR8 .swap (.reg .l) s

/-- `SWAP (HL)` (R221). -/
def exec_swap_indHL (s : State) : Out := rotR8 .swap .indHL s

/-- `SWAP A` (R221). -/
def exec_swap_A (s : State) : Out := rotR8 .swap (.reg .a) s

/-- `SRL B` (R222). -/
def exec_srl_B (s : State) : Out := rotR8 .srl (.reg .b) s

/-- `SRL C` (R222). -/
def exec_srl_C (s : State) : Out := rotR8 .srl (.reg .c) s

/-- `SRL D` (R222). -/
def exec_srl_D (s : State) : Out := rotR8 .srl (.reg .d) s

/-- `SRL E` (R222). -/
def exec_srl_E (s : State) : Out := rotR8 .srl (.reg .e) s

/-- `SRL H` (R222). -/
def exec_srl_H (s : State) : Out := rotR8 .srl (.reg .h) s

/-- `SRL L` (R222). -/
def exec_srl_L (s : State) : Out := rotR8 .srl (.reg .l) s

/-- `SRL (HL)` (R222). -/
def exec_srl_indHL (s : State) : Out := rotR8 .srl .indHL s

/-- `SRL A` (R222). -/
def exec_srl_A (s : State) : Out := rotR8 .srl (.reg .a) s

/-- `BIT 0,B` (R223). -/
def exec_bit_0_B (s : State) : Out := bitR8 0 (.reg .b) s

/-- `BIT 0,C` (R223). -/
def exec_bit_0_C (s : State) : Out := bitR8 0 (.reg .c) s

/-- `BIT 0,D` (R223). -/
def exec_bit_0_D (s : State) : Out := bitR8 0 (.reg .d) s

/-- `BIT 0,E` (R223). -/
def exec_bit_0_E (s : State) : Out := bitR8 0 (.reg .e) s

/-- `BIT 0,H` (R223). -/
def exec_bit_0_H (s : State) : Out := bitR8 0 (.reg .h) s

/-- `BIT 0,L` (R223). -/
def exec_bit_0_L (s : State) : Out := bitR8 0 (.reg .l) s

/-- `BIT 0,(HL)` (R223). -/
def exec_bit_0_indHL (s : State) : Out := bitR8 0 .indHL s

/-- `BIT 0,A` (R223). -/
def exec_bit_0_A (s : State) : Out := bitR8 0 (.reg .a) s

/-- `BIT 1,B` (R223). -/
def exec_bit_1_B (s : State) : Out := bitR8 1 (.reg .b) s

/-- `BIT 1,C` (R223). -/
def exec_bit_1_C (s : State) : Out := bitR8 1 (.reg .c) s

/-- `BIT 1,D` (R223). -/
def exec_bit_1_D (s : State) : Out := bitR8 1 (.reg .d) s

/-- `BIT 1,E` (R223). -/
def exec_bit_1_E (s : State) : Out := bitR8 1 (.reg .e) s

/-- `BIT 1,H` (R223). -/
def exec_bit_1_H (s : State) : Out := bitR8 1 (.reg .h) s

/-- `BIT 1,L` (R223). -/
def exec_bit_1_L (s : State) : Out := bitR8 1 (.reg .l) s

/-- `BIT 1,(HL)` (R223). -/
def exec_bit_1_indHL (s : State) : Out := bitR8 1 .indHL s

/-- `BIT 1,A` (R223). -/
def exec_bit_1_A (s : State) : Out := bitR8 1 (.reg .a) s

/-- `BIT 2,B` (R223). -/
def exec_bit_2_B (s : State) : Out := bitR8 2 (.reg .b) s

/-- `BIT 2,C` (R223). -/
def exec_bit_2_C (s : State) : Out := bitR8 2 (.reg .c) s

/-- `BIT 2,D` (R223). -/
def exec_bit_2_D (s : State) : Out := bitR8 2 (.reg .d) s

/-- `BIT 2,E` (R223). -/
def exec_bit_2_E (s : State) : Out := bitR8 2 (.reg .e) s

/-- `BIT 2,H` (R223). -/
def exec_bit_2_H (s : State) : Out := bitR8 2 (.reg .h) s

/-- `BIT 2,L` (R223). -/
def exec_bit_2_L (s : State) : Out := bitR8 2 (.reg .l) s

/-- `BIT 2,(HL)` (R223). -/
def exec_bit_2_indHL (s : State) : Out := bitR8 2 .indHL s

/-- `BIT 2,A` (R223). -/
def exec_bit_2_A (s : State) : Out := bitR8 2 (.reg .a) s

/-- `BIT 3,B` (R223). -/
def exec_bit_3_B (s : State) : Out := bitR8 3 (.reg .b) s

/-- `BIT 3,C` (R223). -/
def exec_bit_3_C (s : State) : Out := bitR8 3 (.reg .c) s

/-- `BIT 3,D` (R223). -/
def exec_bit_3_D (s : State) : Out := bitR8 3 (.reg .d) s

/-- `BIT 3,E` (R223). -/
def exec_bit_3_E (s : State) : Out := bitR8 3 (.reg .e) s

/-- `BIT 3,H` (R223). -/
def exec_bit_3_H (s : State) : Out := bitR8 3 (.reg .h) s

/-- `BIT 3,L` (R223). -/
def exec_bit_3_L (s : State) : Out := bitR8 3 (.reg .l) s

/-- `BIT 3,(HL)` (R223). -/
def exec_bit_3_indHL (s : State) : Out := bitR8 3 .indHL s

/-- `BIT 3,A` (R223). -/
def exec_bit_3_A (s : State) : Out := bitR8 3 (.reg .a) s

/-- `BIT 4,B` (R223). -/
def exec_bit_4_B (s : State) : Out := bitR8 4 (.reg .b) s

/-- `BIT 4,C` (R223). -/
def exec_bit_4_C (s : State) : Out := bitR8 4 (.reg .c) s

/-- `BIT 4,D` (R223). -/
def exec_bit_4_D (s : State) : Out := bitR8 4 (.reg .d) s

/-- `BIT 4,E` (R223). -/
def exec_bit_4_E (s : State) : Out := bitR8 4 (.reg .e) s

/-- `BIT 4,H` (R223). -/
def exec_bit_4_H (s : State) : Out := bitR8 4 (.reg .h) s

/-- `BIT 4,L` (R223). -/
def exec_bit_4_L (s : State) : Out := bitR8 4 (.reg .l) s

/-- `BIT 4,(HL)` (R223). -/
def exec_bit_4_indHL (s : State) : Out := bitR8 4 .indHL s

/-- `BIT 4,A` (R223). -/
def exec_bit_4_A (s : State) : Out := bitR8 4 (.reg .a) s

/-- `BIT 5,B` (R223). -/
def exec_bit_5_B (s : State) : Out := bitR8 5 (.reg .b) s

/-- `BIT 5,C` (R223). -/
def exec_bit_5_C (s : State) : Out := bitR8 5 (.reg .c) s

/-- `BIT 5,D` (R223). -/
def exec_bit_5_D (s : State) : Out := bitR8 5 (.reg .d) s

/-- `BIT 5,E` (R223). -/
def exec_bit_5_E (s : State) : Out := bitR8 5 (.reg .e) s

/-- `BIT 5,H` (R223). -/
def exec_bit_5_H (s : State) : Out := bitR8 5 (.reg .h) s

/-- `BIT 5,L` (R223). -/
def exec_bit_5_L (s : State) : Out := bitR8 5 (.reg .l) s

/-- `BIT 5,(HL)` (R223). -/
def exec_bit_5_indHL (s : State) : Out := bitR8 5 .indHL s

/-- `BIT 5,A` (R223). -/
def exec_bit_5_A (s : State) : Out := bitR8 5 (.reg .a) s

/-- `BIT 6,B` (R223). -/
def exec_bit_6_B (s : State) : Out := bitR8 6 (.reg .b) s

/-- `BIT 6,C` (R223). -/
def exec_bit_6_C (s : State) : Out := bitR8 6 (.reg .c) s

/-- `BIT 6,D` (R223). -/
def exec_bit_6_D (s : State) : Out := bitR8 6 (.reg .d) s

/-- `BIT 6,E` (R223). -/
def exec_bit_6_E (s : State) : Out := bitR8 6 (.reg .e) s

/-- `BIT 6,H` (R223). -/
def exec_bit_6_H (s : State) : Out := bitR8 6 (.reg .h) s

/-- `BIT 6,L` (R223). -/
def exec_bit_6_L (s : State) : Out := bitR8 6 (.reg .l) s

/-- `BIT 6,(HL)` (R223). -/
def exec_bit_6_indHL (s : State) : Out := bitR8 6 .indHL s

/-- `BIT 6,A` (R223). -/
def exec_bit_6_A (s : State) : Out := bitR8 6 (.reg .a) s

/-- `BIT 7,B` (R223). -/
def exec_bit_7_B (s : State) : Out := bitR8 7 (.reg .b) s

/-- `BIT 7,C` (R223). -/
def exec_bit_7_C (s : State) : Out := bitR8 7 (.reg .c) s

/-- `BIT 7,D` (R223). -/
def exec_bit_7_D (s : State) : Out := bitR8 7 (.reg .d) s

/-- `BIT 7,E` (R223). -/
def exec_bit_7_E (s : State) : Out := bitR8 7 (.reg .e) s

/-- `BIT 7,H` (R223). -/
def exec_bit_7_H (s : State) : Out := bitR8 7 (.reg .h) s

/-- `BIT 7,L` (R223). -/
def exec_bit_7_L (s : State) : Out := bitR8 7 (.reg .l) s

/-- `BIT 7,(HL)` (R223). -/
def exec_bit_7_indHL (s : State) : Out := bitR8 7 .indHL s

/-- `BIT 7,A` (R223). -/
def exec_bit_7_A (s : State) : Out := bitR8 7 (.reg .a) s

/-- `RES 0,B` (R224). -/
def exec_res_0_B (s : State) : Out := resR8 0 (.reg .b) s

/-- `RES 0,C` (R224). -/
def exec_res_0_C (s : State) : Out := resR8 0 (.reg .c) s

/-- `RES 0,D` (R224). -/
def exec_res_0_D (s : State) : Out := resR8 0 (.reg .d) s

/-- `RES 0,E` (R224). -/
def exec_res_0_E (s : State) : Out := resR8 0 (.reg .e) s

/-- `RES 0,H` (R224). -/
def exec_res_0_H (s : State) : Out := resR8 0 (.reg .h) s

/-- `RES 0,L` (R224). -/
def exec_res_0_L (s : State) : Out := resR8 0 (.reg .l) s

/-- `RES 0,(HL)` (R224). -/
def exec_res_0_indHL (s : State) : Out := resR8 0 .indHL s

/-- `RES 0,A` (R224). -/
def exec_res_0_A (s : State) : Out := resR8 0 (.reg .a) s

/-- `RES 1,B` (R224). -/
def exec_res_1_B (s : State) : Out := resR8 1 (.reg .b) s

/-- `RES 1,C` (R224). -/
def exec_res_1_C (s : State) : Out := resR8 1 (.reg .c) s

/-- `RES 1,D` (R224). -/
def exec_res_1_D (s : State) : Out := resR8 1 (.reg .d) s

/-- `RES 1,E` (R224). -/
def exec_res_1_E (s : State) : Out := resR8 1 (.reg .e) s

/-- `RES 1,H` (R224). -/
def exec_res_1_H (s : State) : Out := resR8 1 (.reg .h) s

/-- `RES 1,L` (R224). -/
def exec_res_1_L (s : State) : Out := resR8 1 (.reg .l) s

/-- `RES 1,(HL)` (R224). -/
def exec_res_1_indHL (s : State) : Out := resR8 1 .indHL s

/-- `RES 1,A` (R224). -/
def exec_res_1_A (s : State) : Out := resR8 1 (.reg .a) s

/-- `RES 2,B` (R224). -/
def exec_res_2_B (s : State) : Out := resR8 2 (.reg .b) s

/-- `RES 2,C` (R224). -/
def exec_res_2_C (s : State) : Out := resR8 2 (.reg .c) s

/-- `RES 2,D` (R224). -/
def exec_res_2_D (s : State) : Out := resR8 2 (.reg .d) s

/-- `RES 2,E` (R224). -/
def exec_res_2_E (s : State) : Out := resR8 2 (.reg .e) s

/-- `RES 2,H` (R224). -/
def exec_res_2_H (s : State) : Out := resR8 2 (.reg .h) s

/-- `RES 2,L` (R224). -/
def exec_res_2_L (s : State) : Out := resR8 2 (.reg .l) s

/-- `RES 2,(HL)` (R224). -/
def exec_res_2_indHL (s : State) : Out := resR8 2 .indHL s

/-- `RES 2,A` (R224). -/
def exec_res_2_A (s : State) : Out := resR8 2 (.reg .a) s

/-- `RES 3,B` (R224). -/
def exec_res_3_B (s : State) : Out := resR8 3 (.reg .b) s

/-- `RES 3,C` (R224). -/
def exec_res_3_C (s : State) : Out := resR8 3 (.reg .c) s

/-- `RES 3,D` (R224). -/
def exec_res_3_D (s : State) : Out := resR8 3 (.reg .d) s

/-- `RES 3,E` (R224). -/
def exec_res_3_E (s : State) : Out := resR8 3 (.reg .e) s

/-- `RES 3,H` (R224). -/
def exec_res_3_H (s : State) : Out := resR8 3 (.reg .h) s

/-- `RES 3,L` (R224). -/
def exec_res_3_L (s : State) : Out := resR8 3 (.reg .l) s

/-- `RES 3,(HL)` (R224). -/
def exec_res_3_indHL (s : State) : Out := resR8 3 .indHL s

/-- `RES 3,A` (R224). -/
def exec_res_3_A (s : State) : Out := resR8 3 (.reg .a) s

/-- `RES 4,B` (R224). -/
def exec_res_4_B (s : State) : Out := resR8 4 (.reg .b) s

/-- `RES 4,C` (R224). -/
def exec_res_4_C (s : State) : Out := resR8 4 (.reg .c) s

/-- `RES 4,D` (R224). -/
def exec_res_4_D (s : State) : Out := resR8 4 (.reg .d) s

/-- `RES 4,E` (R224). -/
def exec_res_4_E (s : State) : Out := resR8 4 (.reg .e) s

/-- `RES 4,H` (R224). -/
def exec_res_4_H (s : State) : Out := resR8 4 (.reg .h) s

/-- `RES 4,L` (R224). -/
def exec_res_4_L (s : State) : Out := resR8 4 (.reg .l) s

/-- `RES 4,(HL)` (R224). -/
def exec_res_4_indHL (s : State) : Out := resR8 4 .indHL s

/-- `RES 4,A` (R224). -/
def exec_res_4_A (s : State) : Out := resR8 4 (.reg .a) s

/-- `RES 5,B` (R224). -/
def exec_res_5_B (s : State) : Out := resR8 5 (.reg .b) s

/-- `RES 5,C` (R224). -/
def exec_res_5_C (s : State) : Out := resR8 5 (.reg .c) s

/-- `RES 5,D` (R224). -/
def exec_res_5_D (s : State) : Out := resR8 5 (.reg .d) s

/-- `RES 5,E` (R224). -/
def exec_res_5_E (s : State) : Out := resR8 5 (.reg .e) s

/-- `RES 5,H` (R224). -/
def exec_res_5_H (s : State) : Out := resR8 5 (.reg .h) s

/-- `RES 5,L` (R224). -/
def exec_res_5_L (s : State) : Out := resR8 5 (.reg .l) s

/-- `RES 5,(HL)` (R224). -/
def exec_res_5_indHL (s : State) : Out := resR8 5 .indHL s

/-- `RES 5,A` (R224). -/
def exec_res_5_A (s : State) : Out := resR8 5 (.reg .a) s

/-- `RES 6,B` (R224). -/
def exec_res_6_B (s : State) : Out := resR8 6 (.reg .b) s

/-- `RES 6,C` (R224). -/
def exec_res_6_C (s : State) : Out := resR8 6 (.reg .c) s

/-- `RES 6,D` (R224). -/
def exec_res_6_D (s : State) : Out := resR8 6 (.reg .d) s

/-- `RES 6,E` (R224). -/
def exec_res_6_E (s : State) : Out := resR8 6 (.reg .e) s

/-- `RES 6,H` (R224). -/
def exec_res_6_H (s : State) : Out := resR8 6 (.reg .h) s

/-- `RES 6,L` (R224). -/
def exec_res_6_L (s : State) : Out := resR8 6 (.reg .l) s

/-- `RES 6,(HL)` (R224). -/
def exec_res_6_indHL (s : State) : Out := resR8 6 .indHL s

/-- `RES 6,A` (R224). -/
def exec_res_6_A (s : State) : Out := resR8 6 (.reg .a) s

/-- `RES 7,B` (R224). -/
def exec_res_7_B (s : State) : Out := resR8 7 (.reg .b) s

/-- `RES 7,C` (R224). -/
def exec_res_7_C (s : State) : Out := resR8 7 (.reg .c) s

/-- `RES 7,D` (R224). -/
def exec_res_7_D (s : State) : Out := resR8 7 (.reg .d) s

/-- `RES 7,E` (R224). -/
def exec_res_7_E (s : State) : Out := resR8 7 (.reg .e) s

/-- `RES 7,H` (R224). -/
def exec_res_7_H (s : State) : Out := resR8 7 (.reg .h) s

/-- `RES 7,L` (R224). -/
def exec_res_7_L (s : State) : Out := resR8 7 (.reg .l) s

/-- `RES 7,(HL)` (R224). -/
def exec_res_7_indHL (s : State) : Out := resR8 7 .indHL s

/-- `RES 7,A` (R224). -/
def exec_res_7_A (s : State) : Out := resR8 7 (.reg .a) s

/-- `SET 0,B` (R225). -/
def exec_set_0_B (s : State) : Out := setR8 0 (.reg .b) s

/-- `SET 0,C` (R225). -/
def exec_set_0_C (s : State) : Out := setR8 0 (.reg .c) s

/-- `SET 0,D` (R225). -/
def exec_set_0_D (s : State) : Out := setR8 0 (.reg .d) s

/-- `SET 0,E` (R225). -/
def exec_set_0_E (s : State) : Out := setR8 0 (.reg .e) s

/-- `SET 0,H` (R225). -/
def exec_set_0_H (s : State) : Out := setR8 0 (.reg .h) s

/-- `SET 0,L` (R225). -/
def exec_set_0_L (s : State) : Out := setR8 0 (.reg .l) s

/-- `SET 0,(HL)` (R225). -/
def exec_set_0_indHL (s : State) : Out := setR8 0 .indHL s

/-- `SET 0,A` (R225). -/
def exec_set_0_A (s : State) : Out := setR8 0 (.reg .a) s

/-- `SET 1,B` (R225). -/
def exec_set_1_B (s : State) : Out := setR8 1 (.reg .b) s

/-- `SET 1,C` (R225). -/
def exec_set_1_C (s : State) : Out := setR8 1 (.reg .c) s

/-- `SET 1,D` (R225). -/
def exec_set_1_D (s : State) : Out := setR8 1 (.reg .d) s

/-- `SET 1,E` (R225). -/
def exec_set_1_E (s : State) : Out := setR8 1 (.reg .e) s

/-- `SET 1,H` (R225). -/
def exec_set_1_H (s : State) : Out := setR8 1 (.reg .h) s

/-- `SET 1,L` (R225). -/
def exec_set_1_L (s : State) : Out := setR8 1 (.reg .l) s

/-- `SET 1,(HL)` (R225). -/
def exec_set_1_indHL (s : State) : Out := setR8 1 .indHL s

/-- `SET 1,A` (R225). -/
def exec_set_1_A (s : State) : Out := setR8 1 (.reg .a) s

/-- `SET 2,B` (R225). -/
def exec_set_2_B (s : State) : Out := setR8 2 (.reg .b) s

/-- `SET 2,C` (R225). -/
def exec_set_2_C (s : State) : Out := setR8 2 (.reg .c) s

/-- `SET 2,D` (R225). -/
def exec_set_2_D (s : State) : Out := setR8 2 (.reg .d) s

/-- `SET 2,E` (R225). -/
def exec_set_2_E (s : State) : Out := setR8 2 (.reg .e) s

/-- `SET 2,H` (R225). -/
def exec_set_2_H (s : State) : Out := setR8 2 (.reg .h) s

/-- `SET 2,L` (R225). -/
def exec_set_2_L (s : State) : Out := setR8 2 (.reg .l) s

/-- `SET 2,(HL)` (R225). -/
def exec_set_2_indHL (s : State) : Out := setR8 2 .indHL s

/-- `SET 2,A` (R225). -/
def exec_set_2_A (s : State) : Out := setR8 2 (.reg .a) s

/-- `SET 3,B` (R225). -/
def exec_set_3_B (s : State) : Out := setR8 3 (.reg .b) s

/-- `SET 3,C` (R225). -/
def exec_set_3_C (s : State) : Out := setR8 3 (.reg .c) s

/-- `SET 3,D` (R225). -/
def exec_set_3_D (s : State) : Out := setR8 3 (.reg .d) s

/-- `SET 3,E` (R225). -/
def exec_set_3_E (s : State) : Out := setR8 3 (.reg .e) s

/-- `SET 3,H` (R225). -/
def exec_set_3_H (s : State) : Out := setR8 3 (.reg .h) s

/-- `SET 3,L` (R225). -/
def exec_set_3_L (s : State) : Out := setR8 3 (.reg .l) s

/-- `SET 3,(HL)` (R225). -/
def exec_set_3_indHL (s : State) : Out := setR8 3 .indHL s

/-- `SET 3,A` (R225). -/
def exec_set_3_A (s : State) : Out := setR8 3 (.reg .a) s

/-- `SET 4,B` (R225). -/
def exec_set_4_B (s : State) : Out := setR8 4 (.reg .b) s

/-- `SET 4,C` (R225). -/
def exec_set_4_C (s : State) : Out := setR8 4 (.reg .c) s

/-- `SET 4,D` (R225). -/
def exec_set_4_D (s : State) : Out := setR8 4 (.reg .d) s

/-- `SET 4,E` (R225). -/
def exec_set_4_E (s : State) : Out := setR8 4 (.reg .e) s

/-- `SET 4,H` (R225). -/
def exec_set_4_H (s : State) : Out := setR8 4 (.reg .h) s

/-- `SET 4,L` (R225). -/
def exec_set_4_L (s : State) : Out := setR8 4 (.reg .l) s

/-- `SET 4,(HL)` (R225). -/
def exec_set_4_indHL (s : State) : Out := setR8 4 .indHL s

/-- `SET 4,A` (R225). -/
def exec_set_4_A (s : State) : Out := setR8 4 (.reg .a) s

/-- `SET 5,B` (R225). -/
def exec_set_5_B (s : State) : Out := setR8 5 (.reg .b) s

/-- `SET 5,C` (R225). -/
def exec_set_5_C (s : State) : Out := setR8 5 (.reg .c) s

/-- `SET 5,D` (R225). -/
def exec_set_5_D (s : State) : Out := setR8 5 (.reg .d) s

/-- `SET 5,E` (R225). -/
def exec_set_5_E (s : State) : Out := setR8 5 (.reg .e) s

/-- `SET 5,H` (R225). -/
def exec_set_5_H (s : State) : Out := setR8 5 (.reg .h) s

/-- `SET 5,L` (R225). -/
def exec_set_5_L (s : State) : Out := setR8 5 (.reg .l) s

/-- `SET 5,(HL)` (R225). -/
def exec_set_5_indHL (s : State) : Out := setR8 5 .indHL s

/-- `SET 5,A` (R225). -/
def exec_set_5_A (s : State) : Out := setR8 5 (.reg .a) s

/-- `SET 6,B` (R225). -/
def exec_set_6_B (s : State) : Out := setR8 6 (.reg .b) s

/-- `SET 6,C` (R225). -/
def exec_set_6_C (s : State) : Out := setR8 6 (.reg .c) s

/-- `SET 6,D` (R225). -/
def exec_set_6_D (s : State) : Out := setR8 6 (.reg .d) s

/-- `SET 6,E` (R225). -/
def exec_set_6_E (s : State) : Out := setR8 6 (.reg .e) s

/-- `SET 6,H` (R225). -/
def exec_set_6_H (s : State) : Out := setR8 6 (.reg .h) s

/-- `SET 6,L` (R225). -/
def exec_set_6_L (s : State) : Out := setR8 6 (.reg .l) s

/-- `SET 6,(HL)` (R225). -/
def exec_set_6_indHL (s : State) : Out := setR8 6 .indHL s

/-- `SET 6,A` (R225). -/
def exec_set_6_A (s : State) : Out := setR8 6 (.reg .a) s

/-- `SET 7,B` (R225). -/
def exec_set_7_B (s : State) : Out := setR8 7 (.reg .b) s

/-- `SET 7,C` (R225). -/
def exec_set_7_C (s : State) : Out := setR8 7 (.reg .c) s

/-- `SET 7,D` (R225). -/
def exec_set_7_D (s : State) : Out := setR8 7 (.reg .d) s

/-- `SET 7,E` (R225). -/
def exec_set_7_E (s : State) : Out := setR8 7 (.reg .e) s

/-- `SET 7,H` (R225). -/
def exec_set_7_H (s : State) : Out := setR8 7 (.reg .h) s

/-- `SET 7,L` (R225). -/
def exec_set_7_L (s : State) : Out := setR8 7 (.reg .l) s

/-- `SET 7,(HL)` (R225). -/
def exec_set_7_indHL (s : State) : Out := setR8 7 .indHL s

/-- `SET 7,A` (R225). -/
def exec_set_7_A (s : State) : Out := setR8 7 (.reg .a) s

end Sys2Proof.Machine
end

