-- ==== Sys2Proof/Machine/Fetch.lean ====
section
/-! DEFINITION. Fetching an instruction's bytes at PC and decoding them (spec/30_encoding.md R102, R103, R110), and
storing an instruction's bytes where the next step fetches them. -/

namespace Sys2Proof.Machine

/-- One Bus read of the fetch. pcThen is what PC holds when the byte is read (R102): PC stays there if the read
faults. In every other case PC keeps the address of the instruction's first byte, from which the meaning makes the
fetch-time advance itself (log entry 12). -/
def fetchByte (addr pcThen : Word) (s : State) : Res Byte :=
  if prohibited addr then .fault (raise (.prohibitedAccess addr .read) { s with pc := pcThen })
  else .ok (busValue addr s) (busAfterRead addr s)

/-- The instruction at PC: the opcode byte, the prefix's second byte, then the immediate bytes from the lowest
address up (R102, R110, spec/60_exceptions.md R305). STOP's second byte is not read. -/
def fetchInstr (s : State) : Res Instr :=
  (fetchByte s.pc s.pc s).bind fun b0 s1 =>
    match entryOf b0 with
    | .op i => .ok i s1
    | .opSkip i => .ok i s1
    | .imm8 mk => (fetchByte (s.pc + 1) (s.pc + 1) s1).bind fun n s2 => .ok (mk n) s2
    | .imm16 mk =>
      (fetchByte (s.pc + 1) (s.pc + 1) s1).bind fun lo s2 =>
        (fetchByte (s.pc + 2) (s.pc + 1) s2).bind fun hi s3 => .ok (mk (joinBytes hi lo)) s3
    | .cbPrefix => (fetchByte (s.pc + 1) (s.pc + 1) s1).bind fun b1 s2 => .ok (cbEntry b1) s2

/-- Put a byte where the Bus reads address addr, whatever a Bus write there would do: into ROM at the mapped offset
(the cartridge grows to hold it), into cartridge RAM, work RAM, high RAM, IE or a timer register. An external or
prohibited address holds no byte (log entry 14). -/
def placeByte (addr : Word) (v : Byte) (s : State) : State :=
  match regionOf addr with
  | .rom =>
    { s with cart := { s.cart with
        rom := Memory.write s.cart.rom (s.cart.romOffset addr) v
        romSize := max s.cart.romSize (s.cart.romOffset addr + 1) } }
  | .cartRam => { s with cart := s.cart.cramPut (s.cart.ramOffset addr) v }
  | .workRam => { s with wram := Memory.write s.wram (addr.toNat - 0xC000) v }
  | .timer => { s with timer := s.timer.writeReg s.cfg addr v }
  | .highRam => { s with hram := Memory.write s.hram (addr.toNat - 0xFF80) v }
  | .interruptEnable => { s with ie := v }
  | .videoRam | .spriteAttr | .ioExternal | .echo | .unusable => s

/-- Put bytes from address addr up. -/
def placeBytes : Word → List Byte → State → State
  | _, [], s => s
  | addr, v :: rest, s => placeBytes (addr + 1) rest (placeByte addr v s)

end Sys2Proof.Machine
end

