-- ==== Sys2Proof/Machine/Step.lean ====
section
/-! DEFINITION. One step (spec/30_encoding.md R100, spec/70_reset_and_hazards.md R349). -/

namespace Sys2Proof.Machine

/-- Run the fetched instruction: its meaning, or the fault of the fetch. -/
def runFetched : Res Instr → Out
  | .ok i s => exec i s
  | .fault e => .fault e

/-- `step()` (R100, R349): while Running, fetch, decode and execute one instruction; once the run has ended, nothing
changes. -/
def step (s : State) : Host.Outcome State Fault Refusal :=
  match s.status with
  | .running => runFetched (fetchInstr s)
  | .stopped _ => .next s
  | .faulted _ => .next s

/-- s with an instruction of spec/opcode_table.json, numbered as the table numbers it, stored where step fetches its
next instruction, and the run going on (log entries 7, 9 and 14). -/
def State.withFetchWord (s : State) (nbits w : Nat) : State :=
  placeBytes s.pc (tableBytes nbits w) { s with status := .running }

end Sys2Proof.Machine
end

