-- ==== Sys2Proof/Machine/Cartridge.lean ====
section
/-! DEFINITION. Cartridge construction (spec/70_reset_and_hazards.md R342 to R348): the header checks, the choice of
the controller, the RAM size. -/

namespace Sys2Proof.Machine

/-- Why a cartridge is refused (R347). A load error is a result of loading, not a fault: no core exists after it. -/
inductive LoadError where
  | tooShort
  | logoMismatch
  | unsupportedType (code : Byte)
  deriving DecidableEq, Repr

/-- The three variants (spec/00_scope.md R3). -/
inductive Variant where
  | none
  | combo
  | ramonly
  deriving DecidableEq, Repr

/-- The header byte at an offset; an absent one reads as 0 (R343, R346). -/
def headerByte (image : List Byte) (offset : Nat) : Byte := image.getD offset 0x00#8

/-- `image[0x0104..0x0133]` (R343). -/
def headerLogo (image : List Byte) : List Byte := (image.drop 0x104).take 48

/-- `image[0x0134..0x0142]`: 15 raw bytes, which nothing in the CORE uses (R343). -/
def headerTitle (image : List Byte) : List Byte := (image.drop 0x134).take 15

/-- Type code to variant (R345); none of the three is an unsupported type. -/
def variantOf (code : Byte) : Option Variant :=
  if code.toNat = 0 then some .none
  else if code.toNat ≤ 3 then some .combo
  else if code.toNat = 5 ∨ code.toNat = 6 then some .ramonly
  else none

/-- `RAM_SIZE_TABLE(code)`: 0 for a code that the table does not list (spec/00_scope.md R8, R346). -/
def ramSizeOfCode (cfg : Config) (code : Byte) : Nat := (cfg.ramSizeTable.lookup code).getD 0

/-- `RAM_SIZE` (R346): the table's for NONE and COMBO, `MBC2_RAM_SIZE` for RAMONLY. -/
def ramSizeOf (cfg : Config) (v : Variant) (code : Byte) : Nat :=
  match v with
  | .none => ramSizeOfCode cfg code
  | .combo => ramSizeOfCode cfg code
  | .ramonly => cfg.mbc2RamSize

/-- The controller of a variant, its registers at reset (R348, spec/10_state.md R40). -/
def controllerOf : Variant → Controller
  | .none => .none
  | .combo => .combo ComboRegs.reset
  | .ramonly => .ramonly RamonlyRegs.reset

/-- The cartridge built from an image: `ROM = image`, `CRAM` is the first RAM_SIZE bytes of RAM_INIT's (R346, R348). -/
def cartOf (cfg : Config) (v : Variant) (image : List Byte) : Cart where
  rom := Memory.ofBytes image
  romSize := image.length
  cram := Memory.ofBytes (cfg.ramInit.cram.take (ramSizeOf cfg v (headerByte image 0x149)))
  ramSize := ramSizeOf cfg v (headerByte image 0x149)
  ctrl := controllerOf v

/-- `loadCartridge(image)`: length, then logo, then type; then a core in the reset state (R342). -/
def loadCartridge (cfg : Config) (image : List Byte) : Except LoadError State :=
  if image.length < 0x148 then .error .tooShort
  else if headerLogo image ≠ cfg.logo then .error .logoMismatch
  else
    match variantOf (headerByte image 0x147) with
    | none => .error (.unsupportedType (headerByte image 0x147))
    | some v => .ok (State.initial cfg (cartOf cfg v image))

end Sys2Proof.Machine
end

