-- ==== Sys2Proof/Machine/HostSurface.lean ====
section
/-! DEFINITION. The host surface (spec/70_reset_and_hazards.md R349 to R352): what the host does between steps. -/

namespace Sys2Proof.Machine

/-! ## Registers and flags (R351): the getters are `State.reg`, `State.readF`, `sp`, `pc`, `State.bc`, `State.de`,
`State.hl`, `State.af` and the four flag readers; the setters that are not there already follow. -/

/-- Host `setPC`. -/
def hostSetPC (v : Word) (s : State) : State := { s with pc := v }

/-- Host setter of an 8-bit register. -/
def hostSetReg (r : Reg8) (v : Byte) (s : State) : State := s.setReg r v

/-- Host setter of BC, DE, HL or SP, as given and unchecked. -/
def hostSetPair (p : Pair) (v : Word) (s : State) : State := s.setPair p v

/-- Host setter of F: stores `v AND 0xF0`. -/
def hostSetF (v : Byte) (s : State) : State := s.writeF v

/-- Host setter of AF: stores `v AND 0xF0` in F. -/
def hostSetAF (v : Word) (s : State) : State := s.setAF v

/-! ## Stack access (R351) -/

/-- Host `push(v)`: `Push16` with the window check; no tick, no change of status but a fault's. -/
def hostPush (v : Word) (s : State) : Res Unit := push16 v s

/-- Host `pop()`: `Pop16` with the window check. -/
def hostPop (s : State) : Res Word := pop16 s

/-! ## Cartridge RAM persistence (R352) -/

/-- `ramBytes()`: a copy of `CRAM`. -/
def ramBytes (s : State) : List Byte := Memory.toBytes s.cart.cram s.cart.ramSize

/-- `loadRam(b)`: the first min(len(b), RAM_SIZE) bytes into `CRAM` from offset 0; the rest unchanged. -/
def loadRam (bs : List Byte) (s : State) : State :=
  { s with cart := { s.cart with cram := Memory.writeBytes s.cart.cram 0 (bs.take s.cart.ramSize) } }

/-- `flush()`: the host takes `ramBytes()`; no CORE state changes. -/
def flush (s : State) : List Byte × State := (ramBytes s, s)

/-! ## Stepping and running (R349, R350, R358) -/

/-- What `step()` returns: the step's cycle count, 0 once the run has ended, and no count for a faulting step. -/
def stepCycles (s : State) : Option Nat :=
  match step s with
  | .next t => some (t.elapsed - s.elapsed)
  | .fault _ => none
  | .refused _ => none

/-- How a run under a step bound ends (R358; the bound is the model's, spec/93_implementation_defined.md U7). -/
inductive RunEnd where
  /-- A clean end: HALT or STOP has executed. -/
  | stopped (r : StopReason) (s : State)
  /-- A fatal end. -/
  | faulted (r : Fault)
  /-- The core was given to the host already faulted. -/
  | alreadyFaulted (f : FaultInfo) (s : State)
  /-- The bound is exhausted: neither a stop nor a fault. -/
  | boundExhausted (s : State)
  /-- An instruction without a meaning: no instruction of this model. -/
  | refused (r : Refusal)
  deriving DecidableEq, Repr

/-- Call `step()` while `status = Running`, at most bound times. -/
def runWhileRunning : Nat → State → RunEnd
  | 0, s =>
    match s.status with
    | .running => .boundExhausted s
    | .stopped r => .stopped r s
    | .faulted f => .alreadyFaulted f s
  | bound + 1, s =>
    match s.status with
    | .stopped r => .stopped r s
    | .faulted f => .alreadyFaulted f s
    | .running =>
      match step s with
      | .next t => runWhileRunning bound t
      | .fault e => .faulted e
      | .refused r => .refused r

/-- The core that `loadAndRun` constructs: the NONE controller with `ROM = programBytes`, no header check (R350).
DESIGN CHOICE (log entry 24): R350 gives this core no RAM_SIZE and no header to read it from; the model's is 0, for
every program, so `ramBytes` of it is empty. NONE's RAM does nothing whatever its size (R63). -/
def bareCore (cfg : Config) (program : List Byte) : State :=
  State.initial cfg
    { rom := Memory.ofBytes program, romSize := program.length, cram := [], ramSize := 0, ctrl := .none }

/-- `loadAndRun(programBytes)` under a step bound (R350). -/
def loadAndRun (cfg : Config) (bound : Nat) (program : List Byte) : RunEnd :=
  runWhileRunning bound (bareCore cfg program)

end Sys2Proof.Machine
end

