-- ==== Sys2Proof/Safety.lean ====
section
/-! DEFINITION. What claims are stated in: the invariant of a well-formed machine, the frame of an instruction (what
it leaves unchanged), which instructions have which shape of memory access (spec/20_memory.md R81), and what nothing
in the CORE may depend on (spec/60_exceptions.md R306). -/

namespace Sys2Proof

/-! ## The registers that a form writes -/

/-- The halves of a pair. -/
def Pair.halves : Pair → List Reg8
  | .bc => [.b, .c]
  | .de => [.d, .e]
  | .hl => [.h, .l]
  | .sp => []

/-- The pair is SP. -/
def Pair.isSP : Pair → Bool
  | .bc => false
  | .de => false
  | .hl => false
  | .sp => true

/-- The registers that POP changes, besides SP. -/
def StackPair.halves : StackPair → List Reg8
  | .bc => [.b, .c]
  | .de => [.d, .e]
  | .hl => [.h, .l]
  | .af => [.a]

/-- A is written by every accumulator operation but CP (spec/40_alu.md R136). -/
def AluOp.written : AluOp → List Reg8
  | .add => [.a]
  | .adc => [.a]
  | .sub => [.a]
  | .sbc => [.a]
  | .and => [.a]
  | .xor => [.a]
  | .or => [.a]
  | .cp => []

namespace Machine

/-! ## The invariant -/

/-- A byte array of n bytes: canonical, and nothing listed at or beyond n (spec/10_state.md R30, R31). -/
structure Memory.Array (n : Nat) (m : Memory) : Prop where
  canonical : Memory.wf m = true
  inRange : Memory.below n m = true

/-- The legal values of the bank registers: COMBO's low five bits are 1..31 (spec/10_state.md R33), RAMONLY's bank is
1..15 (R34). -/
def Controller.legal : Controller → Bool
  | .none => true
  | .combo r => r.romBank &&& 0x1F#7 != 0x00#7
  | .ramonly r => r.romBank != 0x0#4

/-- A machine as the spec lays it out: the four arrays in canonical form and inside their sizes (R30, R31), F's low
nibble 0 (R23), legal bank registers (R33, R34), and both timer accumulators below the largest threshold that they
are counted against (spec/60_exceptions.md R314, R315). -/
structure State.Inv (s : State) : Prop where
  wram : Memory.Array 0x2000 s.wram
  hram : Memory.Array 0x7F s.hram
  rom : Memory.Array s.cart.romSize s.cart.rom
  cram : Memory.Array s.cart.ramSize s.cart.cram
  banks : s.cart.ctrl.legal = true
  flagLow : s.f &&& 0x0F#8 = 0x00#8
  divAcc : s.timer.divAcc < 256
  timaAcc : s.timer.timaAcc < 1024

/-! ## Bytes of the address space -/

/-- A byte that only a store changes: one the CORE owns (spec/20_memory.md R51), and not DIV or TIMA, which the tick
after every instruction counts (spec/60_exceptions.md R311). -/
def steady (addr : Word) : Bool :=
  !external addr && !prohibited addr && addr != 0xFF04#16 && addr != 0xFF05#16

/-- The bytes that a store to address a may change, seen from address x in state s: a itself; another address of
the same cartridge RAM cell (R71, R78); and, for a control write to 0x0000–0x7FFF, whatever bank switching maps at
0x4000–0x7FFF and 0xA000–0xBFFF (R85). -/
def storeReaches (s : State) (a x : Word) : Bool :=
  x == a
    || (regionOf a == .cartRam && regionOf x == .cartRam && s.cart.ramOffset x == s.cart.ramOffset a)
    || (regionOf a == .rom && (regionOf x == .cartRam || (regionOf x == .rom && decide (0x4000 ≤ x.toNat))))

/-- Both addresses of a 16-bit access (R52) are outside the prohibited regions. -/
def wordAccessible (addr : Word) : Bool := !prohibited addr && !prohibited (addr + 1)

/-! ## Frames -/

/-- The four flags (spec/10_state.md R23). -/
inductive Flag where
  | z
  | n
  | h
  | c
  deriving DecidableEq, Repr

/-- A flag's value. -/
def State.flag (s : State) : Flag → Bool
  | .z => s.flagZ
  | .n => s.flagN
  | .h => s.flagH
  | .c => s.flagC

/-- What an instruction's rule says it writes, besides memory, PC and the timer's count: the 8-bit registers, the
flags, SP, IME, and the run status. -/
structure Writes where
  regs : List Reg8 := []
  flags : List Flag := []
  sp : Bool := false
  ime : Bool := false
  status : Bool := false
  deriving DecidableEq, Repr

/-- All four flags. -/
def Flag.all : List Flag := [.z, .n, .h, .c]

/-- The register frame: everything that w does not name is as before, and so are the parameters. -/
structure RegistersKept (w : Writes) (s t : State) : Prop where
  regs : ∀ r, r ∉ w.regs → t.reg r = s.reg r
  flags : ∀ f, f ∉ w.flags → t.flag f = s.flag f
  f : w.flags = [] → t.f = s.f
  low : w.flags ≠ [] → t.f &&& 0x0F#8 = 0x00#8
  sp : w.sp = false → t.sp = s.sp
  ime : w.ime = false → t.ime = s.ime
  status : w.status = false → t.status = s.status
  cfg : t.cfg = s.cfg

/-- The memory frame of an instruction that stores nothing: every byte reads as before, no bank register changes, no
write reaches an external collaborator, and the timer has only counted the instruction's cycles (R311). -/
structure MemoryKept (s t : State) : Prop where
  bytes : ∀ x, steady x = true → busValue x t = busValue x s
  cart : t.cart = s.cart
  extWrites : t.extWrites = s.extWrites
  timer : t.timer = s.timer.tick (t.elapsed - s.elapsed)

/-- The memory frame of an instruction that stores to the addresses as and nowhere else. -/
structure StoresOnly (as : List Word) (s t : State) : Prop where
  bytes : ∀ x, steady x = true → (∀ a ∈ as, storeReaches s a x = false) → busValue x t = busValue x s
  rom : t.cart.rom = s.cart.rom ∧ t.cart.romSize = s.cart.romSize ∧ t.cart.ramSize = s.cart.ramSize
  cram : (∀ a ∈ as, regionOf a ≠ .cartRam) → t.cart.cram = s.cart.cram
  ctrl : (∀ a ∈ as, regionOf a ≠ .rom) → t.cart.ctrl = s.cart.ctrl
  extWrites : (∀ a ∈ as, external a = false) → t.extWrites = s.extWrites
  timer : (∀ a ∈ as, regionOf a ≠ .timer) → t.timer = s.timer.tick (t.elapsed - s.elapsed)

/-! ## Shapes of instructions (R81) -/

/-- The flags that POP changes: all of F for POP AF (spec/44_control_flow.md R255). -/
def popFlags : StackPair → List Flag
  | .bc => []
  | .de => []
  | .hl => []
  | .af => Flag.all

/-- The instructions that make no data or stack access, with what each writes (spec/41 to 45, the `Flags` line of
each rule). -/
inductive RegisterForm : Instr → Writes → Prop
  | ldRegReg (dst r : Reg8) : RegisterForm (.ofLdRegReg dst r) { regs := [dst] }
  | ldRegImm (dst : Reg8) (n : Byte) : RegisterForm (.ofLdRegImm dst n) { regs := [dst] }
  | ldPairImm (p : Pair) (n : Word) : RegisterForm (.ofLdPairImm p n) { regs := p.halves, sp := p.isSP }
  | ldSPHL : RegisterForm .ld_SP_HL { sp := true }
  | ldHLSP (e : Byte) : RegisterForm (.ld_HL_SPe8 e) { regs := [.h, .l], flags := Flag.all }
  | aluReg (op : AluOp) (r : Reg8) :
    RegisterForm (.ofAluR8 op (.reg r)) { regs := op.written, flags := Flag.all }
  | aluImm (op : AluOp) (n : Byte) : RegisterForm (.ofAluImm op n) { regs := op.written, flags := Flag.all }
  | incReg (r : Reg8) : RegisterForm (.ofIncReg r) { regs := [r], flags := [.z, .n, .h] }
  | decReg (r : Reg8) : RegisterForm (.ofDecReg r) { regs := [r], flags := [.z, .n, .h] }
  | incPair (p : Pair) : RegisterForm (.ofIncPair p) { regs := p.halves, sp := p.isSP }
  | decPair (p : Pair) : RegisterForm (.ofDecPair p) { regs := p.halves, sp := p.isSP }
  | addHL (p : Pair) : RegisterForm (.ofAddHL p) { regs := [.h, .l], flags := [.n, .h, .c] }
  | addSP (e : Byte) : RegisterForm (.add_SP_e8 e) { sp := true, flags := Flag.all }
  | rlca : RegisterForm .rlca { regs := [.a], flags := Flag.all }
  | rrca : RegisterForm .rrca { regs := [.a], flags := Flag.all }
  | rla : RegisterForm .rla { regs := [.a], flags := Flag.all }
  | rra : RegisterForm .rra { regs := [.a], flags := Flag.all }
  | rot (op : RotOp) (r : Reg8) : RegisterForm (.ofRot op (.reg r)) { regs := [r], flags := Flag.all }
  | bit (y : Fin 8) (r : Reg8) : RegisterForm (.ofBit y (.reg r)) { flags := [.z, .n, .h] }
  | res (y : Fin 8) (r : Reg8) : RegisterForm (.ofRes y (.reg r)) { regs := [r] }
  | set (y : Fin 8) (r : Reg8) : RegisterForm (.ofSet y (.reg r)) { regs := [r] }
  | nop : RegisterForm .nop {}
  | daa : RegisterForm .daa { regs := [.a], flags := [.z, .h, .c] }
  | cpl : RegisterForm .cpl { regs := [.a], flags := [.n, .h] }
  | scf : RegisterForm .scf { flags := [.n, .h, .c] }
  | ccf : RegisterForm .ccf { flags := [.n, .h, .c] }
  | di : RegisterForm .di { ime := true }
  | ei : RegisterForm .ei { ime := true }
  | halt : RegisterForm .halt { status := true }
  | stop : RegisterForm .stop { status := true }
  | jp (n : Word) : RegisterForm (.jp_n16 n) {}
  | jpHL : RegisterForm .jp_HL {}
  | jpCond (cc : Cond) (n : Word) : RegisterForm (.ofJpCond cc n) {}
  | jr (e : Byte) : RegisterForm (.jr_e8 e) {}
  | jrCond (cc : Cond) (e : Byte) : RegisterForm (.ofJrCond cc e) {}

/-- The instructions that only read one data byte, with the address they read and what each writes. -/
inductive LoadForm : Instr → (State → Word) → Writes → Prop
  | ldRegInd (dst : Reg8) : LoadForm (.ofLdRegInd dst) State.hl { regs := [dst] }
  | ldAPair (p : AddrPair) : LoadForm (.ofLdAPair p) (fun s => s.addrPair p) { regs := [.a] }
  | ldAAbs (n : Word) : LoadForm (.ld_A_indN16 n) (fun _ => n) { regs := [.a] }
  | ldhA (n : Byte) : LoadForm (.ldh_A_indN8 n) (fun _ => highPage n) { regs := [.a] }
  | ldAC : LoadForm .ld_A_indC (fun s => highPage s.c) { regs := [.a] }
  | ldAInc : LoadForm .ld_A_indHLinc State.hl { regs := [.a, .h, .l] }
  | ldADec : LoadForm .ld_A_indHLdec State.hl { regs := [.a, .h, .l] }
  | alu (op : AluOp) : LoadForm (.ofAluR8 op .indHL) State.hl { regs := op.written, flags := Flag.all }
  | bit (y : Fin 8) : LoadForm (.ofBit y .indHL) State.hl { flags := [.z, .n, .h] }

/-- The instructions that store data, with the addresses they store to and what each writes besides. -/
inductive StoreForm : Instr → (State → List Word) → Writes → Prop
  | ldIndReg (r : Reg8) : StoreForm (.ofLdIndReg r) (fun s => [s.hl]) {}
  | ldIndImm (n : Byte) : StoreForm (.ld_indHL_n8 n) (fun s => [s.hl]) {}
  | ldPairA (p : AddrPair) : StoreForm (.ofLdPairA p) (fun s => [s.addrPair p]) {}
  | ldAbsA (n : Word) : StoreForm (.ld_indN16_A n) (fun _ => [n]) {}
  | ldhA (n : Byte) : StoreForm (.ldh_indN8_A n) (fun _ => [highPage n]) {}
  | ldCA : StoreForm .ld_indC_A (fun s => [highPage s.c]) {}
  | ldIncA : StoreForm .ld_indHLinc_A (fun s => [s.hl]) { regs := [.h, .l] }
  | ldDecA : StoreForm .ld_indHLdec_A (fun s => [s.hl]) { regs := [.h, .l] }
  | ldAbsSP (n : Word) : StoreForm (.ld_indN16_SP n) (fun _ => [n, n + 1]) {}
  | incInd : StoreForm .inc_indHL (fun s => [s.hl]) { flags := [.z, .n, .h] }
  | decInd : StoreForm .dec_indHL (fun s => [s.hl]) { flags := [.z, .n, .h] }
  | rot (op : RotOp) : StoreForm (.ofRot op .indHL) (fun s => [s.hl]) { flags := Flag.all }
  | res (y : Fin 8) : StoreForm (.ofRes y .indHL) (fun s => [s.hl]) {}
  | set (y : Fin 8) : StoreForm (.ofSet y .indHL) (fun s => [s.hl]) {}

/-- The store forms that first read the byte they then write (spec/60_exceptions.md R302). -/
inductive ReadModifyWrite : Instr → Prop
  | incInd : ReadModifyWrite .inc_indHL
  | decInd : ReadModifyWrite .dec_indHL
  | rot (op : RotOp) : ReadModifyWrite (.ofRot op .indHL)
  | res (y : Fin 8) : ReadModifyWrite (.ofRes y .indHL)
  | set (y : Fin 8) : ReadModifyWrite (.ofSet y .indHL)

/-- The instructions that push (spec/44_control_flow.md R241), with the value pushed: the pair, or the address after
the instruction. A conditional call pushes only when taken. -/
inductive PushForm : Instr → State → Word → Prop
  | push (p : StackPair) (s : State) : PushForm (.ofPush p) s (s.stackPair p)
  | call (n : Word) (s : State) : PushForm (.call_n16 n) s (s.pc + 3)
  | callCond (cc : Cond) (n : Word) (s : State) (taken : s.cond cc = true) : PushForm (.ofCallCond cc n) s (s.pc + 3)
  | rst (y : Fin 8) (s : State) : PushForm (.ofRst y) s (s.pc + 1)

/-- The instructions that pop, with what each writes (R241); a conditional return pops only when taken. -/
inductive PopForm : Instr → State → Writes → Prop
  | pop (p : StackPair) (s : State) : PopForm (.ofPop p) s { regs := p.halves, flags := popFlags p, sp := true }
  | ret (s : State) : PopForm .ret s { sp := true }
  | retCond (cc : Cond) (s : State) (taken : s.cond cc = true) : PopForm (.ofRetCond cc) s { sp := true }
  | reti (s : State) : PopForm .reti s { sp := true, ime := true }

/-- A conditional call or return that is not taken: no stack access (R249, R251). -/
inductive SkipForm : Instr → State → Prop
  | callCond (cc : Cond) (n : Word) (s : State) (skipped : s.cond cc = false) : SkipForm (.ofCallCond cc n) s
  | retCond (cc : Cond) (s : State) (skipped : s.cond cc = false) : SkipForm (.ofRetCond cc) s

/-- The control-flow instructions: jumps, calls, returns and restarts (R243 to R252, R256). -/
inductive ControlFlow : Instr → Prop
  | jp (n : Word) : ControlFlow (.jp_n16 n)
  | jpHL : ControlFlow .jp_HL
  | jpCond (cc : Cond) (n : Word) : ControlFlow (.ofJpCond cc n)
  | jr (e : Byte) : ControlFlow (.jr_e8 e)
  | jrCond (cc : Cond) (e : Byte) : ControlFlow (.ofJrCond cc e)
  | call (n : Word) : ControlFlow (.call_n16 n)
  | callCond (cc : Cond) (n : Word) : ControlFlow (.ofCallCond cc n)
  | ret : ControlFlow .ret
  | retCond (cc : Cond) : ControlFlow (.ofRetCond cc)
  | reti : ControlFlow .reti
  | rst (y : Fin 8) : ControlFlow (.ofRst y)

/-! ## Fetching -/

/-- The first n bytes at PC, as the Bus reads them. -/
def State.bytesAtPC (s : State) (n : Nat) : List Byte :=
  (List.range n).map fun k => busValue (s.pc + BitVec.ofNat 16 k) s

/-- How many bytes the engine reads for an instruction: its length, but one for STOP (spec/45_misc.md R278). -/
def fetchCount (i : Instr) : Nat := if i = .stop then 1 else i.length

/-! ## What nothing in the CORE reads (spec/60_exceptions.md R306) -/

/-- A state with IME and the timer's request bit forgotten. -/
def State.forget (s : State) : State := { s with ime := false, timer := { s.timer with irq := false } }

/-- A fault with them forgotten in the state it leaves. -/
def Fault.forget : Fault → Fault
  | .illegalOpcode addr code s => .illegalOpcode addr code s.forget
  | .prohibitedAccess addr kind s => .prohibitedAccess addr kind s.forget
  | .stackFault sp s => .stackFault sp s.forget

/-- An outcome with them forgotten. -/
def forgetOut : Out → Out
  | .next s => .next s.forget
  | .fault e => .fault e.forget
  | .refused r => .refused r

end Machine

end Sys2Proof
end

