-- ==== Sys2Proof/Certificates/Slice0/Obligations.lean ====
section
/-! DEFINITION. The statements for the provers. Each docstring names the rules of spec/ it formalises, and says where a
clause is a decision of the spec or a choice of the model. In every statement about `exec`, `s.pc` is the address of
the instruction's first byte and the immediates are the constructor's fields (log entry 12). A result statement gives
the whole next state, so it is also where that instruction completes. Opcodes and cycle counts are those of the rules,
which the introductions of the instruction files and D30 of the spec take from the reference instruction set; the model
adds none of its own. `s.cycles code d` and `s.cyclesNotTaken code d` are the entries of the parameter `CYCLES` for a
code: d, the count of the rule, in the default table (R8, R117; log entry 6; ResetLeavesTheseValues states that). -/

open Sys2Proof Sys2Proof.Machine

/-! ## State -/

/-- R20 and R21: seven independent 8-bit registers, none hardwired, and three pairs that are not separate storage. -/
def Obligations.RegistersAreIndependentAndPairsAreViews : Prop :=
  (∀ (r q : Reg8) (v : Byte) (s : State), (s.setReg r v).reg q = if q = r then v else s.reg q) ∧
  (∀ s : State, s.reg .a = s.a ∧ s.reg .b = s.b ∧ s.reg .c = s.c ∧ s.reg .d = s.d ∧ s.reg .e = s.e ∧
    s.reg .h = s.h ∧ s.reg .l = s.l) ∧
  (∀ s : State, s.bc.toNat = s.b.toNat * 256 + s.c.toNat ∧ s.de.toNat = s.d.toNat * 256 + s.e.toNat ∧
    s.hl.toNat = s.h.toNat * 256 + s.l.toNat) ∧
  (∀ (v : Word) (s : State),
    s.setBC v = { s with b := BitVec.ofNat 8 (v.toNat / 256), c := BitVec.ofNat 8 v.toNat } ∧
    s.setDE v = { s with d := BitVec.ofNat 8 (v.toNat / 256), e := BitVec.ofNat 8 v.toNat } ∧
    s.setHL v = { s with h := BitVec.ofNat 8 (v.toNat / 256), l := BitVec.ofNat 8 v.toNat } ∧
    (s.setBC v).bc = v ∧ (s.setDE v).de = v ∧ (s.setHL v).hl = v)

/-- R23 and R24: F packs Z, N, Hf, Cf into bits 7, 6, 5, 4, its low nibble reads as 0 and ignores writes, and AF is A
with F. The order of the flags and AF's use are decisions D2 and D3 of the spec. -/
def Obligations.FlagRegisterLayout : Prop :=
  (∀ z n h c : Bool, (packFlags z n h c).toNat =
    128 * z.toNat + 64 * n.toNat + 32 * h.toNat + 16 * c.toNat) ∧
  (∀ s : State, s.flagZ = decide (s.f.toNat / 128 % 2 = 1) ∧ s.flagN = decide (s.f.toNat / 64 % 2 = 1) ∧
    s.flagH = decide (s.f.toNat / 32 % 2 = 1) ∧ s.flagC = decide (s.f.toNat / 16 % 2 = 1)) ∧
  (∀ (z n h c : Bool) (s : State), (s.setFlags z n h c).flagZ = z ∧ (s.setFlags z n h c).flagN = n ∧
    (s.setFlags z n h c).flagH = h ∧ (s.setFlags z n h c).flagC = c) ∧
  (∀ s : State, s.readF.toNat = s.f.toNat / 16 * 16) ∧
  (∀ (v : Byte) (s : State), (s.writeF v).readF.toNat = v.toNat / 16 * 16) ∧
  (∀ s : State, s.af.toNat = s.a.toNat * 256 + s.f.toNat / 16 * 16) ∧
  (∀ (v : Word) (s : State), s.setAF v =
    { s with a := BitVec.ofNat 8 (v.toNat / 256), f := BitVec.ofNat 8 (v.toNat % 256 / 16 * 16) })

/-- R40, R340, R341: what construction leaves, for every parameters and cartridge, and R8: the default parameters. The
values of F, IME, status, memory, the bank registers and the timer are decisions of the spec (D1, D9, D16, D20, D25, D36,
D37), and so are the defaults (D12, D14, D17, D19, D23, D30, D33, D45, D46). The model's choices are: that State.reset is
the core without cartridge bytes under NONE (log entry 7), and the fields that the spec does not name, which are 0 or
empty: elapsed, extReads, extWrites (log entries 3, 4, 5); how `RAM_INIT` and `CYCLES` are given is log entries 8 and 6. -/
def Obligations.ResetLeavesTheseValues : Prop :=
  (∀ (cfg : Config) (cart : Cart) (s : State), s = State.initial cfg cart →
    s.a = 0 ∧ s.b = 0 ∧ s.c = 0 ∧ s.d = 0 ∧ s.e = 0 ∧ s.h = 0 ∧ s.l = 0 ∧ s.sp = 0 ∧ s.pc = 0 ∧ s.f = 0 ∧
    s.ime = false ∧ s.status = .running ∧ s.ie = cfg.ramInit.ie ∧ s.cart = cart ∧ s.cfg = cfg ∧
    (∀ i, i < 0x2000 → Memory.read s.wram i = cfg.ramInit.wram.getD i 0x00) ∧
    (∀ i, i < 0x7F → Memory.read s.hram i = cfg.ramInit.hram.getD i 0x00) ∧
    s.timer.div = 0 ∧ s.timer.tima = 0 ∧ s.timer.tma = 0 ∧ s.timer.tac = 0 ∧ s.timer.divAcc = 0 ∧
    s.timer.timaAcc = 0 ∧ s.timer.irq = false ∧ s.timer.enabled = false ∧ s.timer.threshold = 1024 ∧
    s.extWrites = [] ∧ s.extReads = 0 ∧ s.elapsed = 0) ∧
  (ComboRegs.reset.ramEnabled = false ∧ ComboRegs.reset.romBank = 1 ∧ ComboRegs.reset.ramBank = 0 ∧
    ComboRegs.reset.mode = .rom) ∧
  (RamonlyRegs.reset.ramEnabled = false ∧ RamonlyRegs.reset.romBank = 1) ∧
  State.reset = State.initial defaultConfig Cart.empty ∧
  Cart.empty.romSize = 0 ∧ Cart.empty.rom = [] ∧ Cart.empty.ramSize = 0 ∧ Cart.empty.cram = [] ∧
  Cart.empty.ctrl = .none ∧
  defaultConfig.ramEnableSentinel = 0x0A ∧ defaultConfig.modeWritePolicy = .toggle ∧
  defaultConfig.mbc2SelectBit = 0 ∧ defaultConfig.mbc2RamSize = 0x200 ∧ defaultConfig.stackLo = 0xFF80 ∧
  defaultConfig.stackHi = 0xFFFE ∧ defaultConfig.divWrite = .reset ∧
  (∀ i, defaultConfig.ramInit.wram.getD i 0x00 = 0x00 ∧ defaultConfig.ramInit.hram.getD i 0x00 = 0x00 ∧
    defaultConfig.ramInit.cram.getD i 0x00 = 0x00) ∧ defaultConfig.ramInit.ie = 0x00 ∧
  (∀ code : Byte, ramSizeOfCode defaultConfig code =
    if code = 0x02 then 0x2000 else if code = 0x03 then 0x8000 else if code = 0x04 then 0x20000
    else if code = 0x05 then 0x4000 else 0) ∧
  defaultConfig.logo = [
    0xCE, 0xED, 0x66, 0x66, 0xCC, 0x0D, 0x00, 0x0B, 0x03, 0x73, 0x00, 0x83, 0x00, 0x0C, 0x00, 0x0D,
    0x00, 0x08, 0x11, 0x1F, 0x88, 0x89, 0x00, 0x0E, 0xDC, 0xCC, 0x6E, 0xE6, 0xDD, 0xDD, 0xD9, 0x99,
    0xBB, 0xBB, 0x67, 0x63, 0x6E, 0x0E, 0xEC, 0xCC, 0xDD, 0xDC, 0x99, 0x9F, 0xBB, 0xB9, 0x33, 0x3E] ∧
  (∀ (s : State) (code d : Nat), s.cfg.cycles = defaultConfig.cycles →
    s.cycles code d = d ∧ s.cyclesNotTaken code d = d) ∧
  (∀ (s : State) (code d n : Nat),
    (((code, true), n) ∈ s.cfg.cycles → (∀ m, ((code, true), m) ∈ s.cfg.cycles → m = n) → s.cycles code d = n) ∧
    (((code, false), n) ∈ s.cfg.cycles → (∀ m, ((code, false), m) ∈ s.cfg.cycles → m = n) →
      s.cyclesNotTaken code d = n))

/-! ## Encoding -/

/-- R107 to R109: decoding the encoding of an instruction, whatever bytes follow, gives the instruction back with
every operand, and leaves what follows. -/
def Obligations.DecodeOfEncodeIsTheInstruction : Prop :=
  ∀ (i : Instr) (rest : List Byte), decode (encode i ++ rest) = .instr i rest

/-- R103, R107, R112: the decoder reads an instruction from its own encoding only, so no two instructions share a word;
the one byte it does not read is STOP's second (R278). -/
def Obligations.DecodedBytesAreTheEncoding : Prop :=
  ∀ (bytes : List Byte) (i : Instr) (rest : List Byte), decode bytes = .instr i rest →
    (i ≠ .stop → bytes = encode i ++ rest) ∧ (i = .stop → bytes.head? = some 0x10 ∧ rest = bytes.tail.tail)

/-- R108, R109: a word of each family, written out from the spec's maps, decodes to the instruction it stands for. -/
def Obligations.SpecWordsDecodeToTheirInstructions : Prop :=
  decode [0x3E#8, 0x05#8] = .instr (.ld_A_n8 0x05) [] ∧ decode [0x06#8, 0x03#8] = .instr (.ld_B_n8 0x03) [] ∧
  decode [0x80#8] = .instr .add_A_B [] ∧ decode [0x10#8, 0x00#8] = .instr .stop [] ∧
  decode [0x01#8, 0x34#8, 0x12#8] = .instr (.ld_BC_n16 0x1234) [] ∧
  decode [0x41#8] = .instr .ld_B_C [] ∧ decode [0x66#8] = .instr .ld_H_indHL [] ∧
  decode [0x76#8] = .instr .halt [] ∧ decode [0x9C#8] = .instr .sbc_A_H [] ∧
  decode [0x20#8, 0xFC#8] = .instr (.jr_NZ_e8 0xFC) [] ∧
  decode [0xCD#8, 0x10#8, 0x00#8] = .instr (.call_n16 0x0010) [] ∧ decode [0xEF#8] = .instr .rst_28 [] ∧
  decode [0xE0#8, 0x07#8] = .instr (.ldh_indN8_A 0x07) [] ∧ decode [0xF1#8] = .instr .pop_AF [] ∧
  decode [0xCB#8, 0x7C#8] = .instr .bit_7_H [] ∧ decode [0xCB#8, 0x06#8] = .instr .rlc_indHL [] ∧
  decode [0xCB#8, 0x87#8] = .instr .res_0_A [] ∧ decode [0xCB#8, 0xFE#8] = .instr .set_7_indHL [] ∧
  decode [0xD3#8] = .instr .illegal_D3 []

/-! ## The step -/

/-- R100, R102, R110: a running machine's step is the meaning of the instruction that the bytes at PC decode to. The
first clause is for bytes that are the CORE's own. The second is for any bytes outside the prohibited regions: an
external byte is a draw (decision D7, log entry 4), read after the draws of the bytes before it. The meaning makes the
fetch-time advance itself (log entry 12), so nothing else is added around it. -/
def Obligations.StepRunsTheDecodedInstruction : Prop :=
  (∀ (s : State) (i : Instr) (rest : List Byte), s.status = .running →
    decode (s.bytesAtPC 3) = .instr i rest →
    (∀ k, k < fetchCount i →
      external (s.pc + BitVec.ofNat 16 k) = false ∧ prohibited (s.pc + BitVec.ofNat 16 k) = false) →
    step s = exec i s) ∧
  (∀ (s : State) (i : Instr) (rest : List Byte), s.status = .running →
    let s1 := busAfterRead s.pc s
    let s2 := busAfterRead (s.pc + 1) s1
    let s3 := busAfterRead (s.pc + 2) s2
    decode [busValue s.pc s, busValue (s.pc + 1) s1, busValue (s.pc + 2) s2] = .instr i rest →
    (∀ k, k < fetchCount i → prohibited (s.pc + BitVec.ofNat 16 k) = false) →
    step s = exec i (if fetchCount i = 1 then s1 else if fetchCount i = 2 then s2 else s3))

/-- R102, R305, R119: a byte fetched from a prohibited address faults, the first byte before anything else, and PC is
past the bytes that the fetch of R102 has consumed. -/
def Obligations.FetchFromProhibitedAddressFaults : Prop :=
  ∀ s : State, s.status = .running →
    let s1 := busAfterRead s.pc s
    let s2 := busAfterRead (s.pc + 1) s1
    (prohibited s.pc = true → step s = .fault (raise (.prohibitedAccess s.pc .read) s)) ∧
    (prohibited s.pc = false → prohibited (s.pc + 1) = true →
      (∀ mk, entryOf (busValue s.pc s) = .imm8 mk →
        step s = .fault (raise (.prohibitedAccess (s.pc + 1) .read) { s1 with pc := s.pc + 1 })) ∧
      (∀ mk, entryOf (busValue s.pc s) = .imm16 mk →
        step s = .fault (raise (.prohibitedAccess (s.pc + 1) .read) { s1 with pc := s.pc + 1 })) ∧
      (entryOf (busValue s.pc s) = .cbPrefix →
        step s = .fault (raise (.prohibitedAccess (s.pc + 1) .read) { s1 with pc := s.pc + 1 }))) ∧
    (prohibited s.pc = false → prohibited (s.pc + 1) = false → prohibited (s.pc + 2) = true →
      ∀ mk, entryOf (busValue s.pc s) = .imm16 mk →
        step s = .fault (raise (.prohibitedAccess (s.pc + 2) .read) { s2 with pc := s.pc + 1 }))

/-- R349: once the run has ended, a step changes nothing and returns 0 (decision D55 of the spec); while it runs, a step
that answers a next state returns its cycle count, 4 to 24 in the default table (R355), and one that faults returns
none. -/
def Obligations.StepAfterTheEndChangesNothing : Prop :=
  (∀ s : State, s.status ≠ .running → step s = .next s ∧ stepCycles s = some 0) ∧
  (∀ s : State, s.status = .running →
    (∀ t, step s = .next t → ∃ n, stepCycles s = some n ∧ t.elapsed = s.elapsed + n ∧
      (s.cfg.cycles = defaultConfig.cycles → 4 ≤ n ∧ n ≤ 24)) ∧
    (∀ e, step s = .fault e → stepCycles s = none))

/-! ## Whole-machine rules -/

/-- R30, R31, R23, R33, R34, R314, R315: every step from a well-formed state leaves one, in the next state and in the
state that a fault leaves. -/
def Obligations.EveryStepKeepsTheInvariant : Prop :=
  ∀ s : State, s.Inv → (∀ t, step s = .next t → t.Inv) ∧ (∀ e, step s = .fault e → e.final.Inv)

/-- R40, R348: the invariant holds at reset, and of every core that a cartridge load or `loadAndRun` constructs. -/
def Obligations.InvariantHoldsAtConstruction : Prop :=
  State.reset.Inv ∧
  (∀ (cfg : Config) (image : List Byte) (s : State), loadCartridge cfg image = .ok s → s.Inv) ∧
  (∀ (cfg : Config) (program : List Byte), (bareCore cfg program).Inv)

/-- R54, R31: no step changes ROM, the sizes of ROM and cartridge RAM, which controller is active, or the parameters. -/
def Obligations.RomAndControllerKindNeverChange : Prop :=
  ∀ s : State,
    let Same := fun t : State => t.cart.rom = s.cart.rom ∧ t.cart.romSize = s.cart.romSize ∧
      t.cart.ramSize = s.cart.ramSize ∧ t.cfg = s.cfg ∧
      (t.cart.ctrl = .none ↔ s.cart.ctrl = .none) ∧
      ((∃ r, t.cart.ctrl = .combo r) ↔ ∃ r, s.cart.ctrl = .combo r) ∧
      ((∃ r, t.cart.ctrl = .ramonly r) ↔ ∃ r, s.cart.ctrl = .ramonly r)
    (∀ t, step s = .next t → Same t) ∧ (∀ e, step s = .fault e → Same e.final)

/-- R28 and R316: IME is written by DI, EI and RETI only, and nothing clears the timer's request bit. -/
def Obligations.InterruptBitsChangeOnlyAsListed : Prop :=
  (∀ (i : Instr) (s t : State), exec i s = .next t →
    t.ime = if i = .di then false else if i = .ei ∨ i = .reti then true else s.ime) ∧
  (∀ s t : State, step s = .next t → s.timer.irq = true → t.timer.irq = true)

/-- R306: nothing reads IME or the timer's request bit. Two states that differ in them only take steps that differ in
them only, to the same kind of outcome. The comparison rests on log entry 4, a choice of the model: a draw of `ExtRead` is
a function of the draw's number and the address, so both runs, whose counters agree, draw the same bytes. -/
def Obligations.NothingReadsInterruptBits : Prop :=
  ∀ s t : State, s.forget = t.forget → forgetOut (step s) = forgetOut (step t)

/-- R29, R320, R349: the run ends by HALT or STOP, with that reason, and by no other instruction that does not fault. -/
def Obligations.OnlyHaltAndStopEndTheRun : Prop :=
  ∀ (i : Instr) (s t : State), exec i s = .next t →
    t.status = if i = .halt then .stopped .halt else if i = .stop then .stopped .stop else s.status

/-- R300, R301: a faulting step records the fault in `status`, and has no tick and no count: the timer and what `step()`
has returned are as before. -/
def Obligations.FaultRecordsInfoAndDoesNotTick : Prop :=
  (∀ (s : State) (e : Fault), step s = .fault e →
    e.final.status = .faulted e.info ∧ e.final.timer = s.timer ∧ e.final.elapsed = s.elapsed ∧
    (∀ v, e.info = .stackFault v → e.final.sp = v)) ∧
  (∀ (i : FaultInfo) (s : State), (raise i s).info = i ∧ (raise i s).final = { s with status := .faulted i }) ∧
  (∀ a c, (FaultInfo.illegalOpcode a c).cause = 1) ∧ (∀ a k, (FaultInfo.prohibitedAccess a k).cause = 2) ∧
  (∀ v, (FaultInfo.stackFault v).cause = 3)

/-- R302: which faults an instruction can raise, and what the record says. Only the unassigned codes raise IllegalOpcode,
of their address and code; only stack moves raise StackFault, of the moved SP; a read faults at the address a load form,
a read-modify-write form or a pop reads, a write at one that another store form or a push stores to; a form without a
data or stack access raises none. (R302 adds that pops never fault on a read because the window is in high RAM: that is
the default window, for which StackMovesAreCheckedBeforeMemory says it; another window is a parameter, D23.) -/
def Obligations.WhichFaultsAnInstructionRaises : Prop :=
  (∀ (i : Instr) (s : State) (e : Fault), exec i s = .fault e →
    (∀ a c, e.info = .illegalOpcode a c →
      i.wellFormed = false ∧ a = s.pc ∧ ∃ b : Byte, encode i = [b] ∧ c = b.setWidth 16) ∧
    (∀ v, e.info = .stackFault v → inStackWindow s.cfg v = false ∧
      ((∃ w, PushForm i s w ∧ v = s.sp - 2) ∨ ∃ w, PopForm i s w ∧ v = s.sp + 2)) ∧
    (∀ a, e.info = .prohibitedAccess a .read → prohibited a = true ∧
      ((∃ addr w, LoadForm i addr w ∧ a = addr s) ∨ (ReadModifyWrite i ∧ a = s.hl) ∨
        ∃ w, PopForm i s w ∧ inStackWindow s.cfg (s.sp + 2) = true ∧ (a = s.sp ∨ a = s.sp + 1))) ∧
    (∀ a, e.info = .prohibitedAccess a .write → prohibited a = true ∧
      ((∃ addrs w, StoreForm i addrs w ∧ ¬ ReadModifyWrite i ∧ a ∈ addrs s) ∨
        ∃ v, PushForm i s v ∧ inStackWindow s.cfg (s.sp - 2) = true ∧ (a = s.sp - 2 ∨ a = s.sp - 1)))) ∧
  (∀ (i : Instr) (w : Writes) (s : State) (e : Fault), RegisterForm i w → exec i s ≠ .fault e) ∧
  (∀ (i : Instr) (s : State) (e : Fault), SkipForm i s → exec i s ≠ .fault e) ∧
  (∀ i : Instr, ReadModifyWrite i → ∃ addrs w, StoreForm i addrs w ∧ ∀ s, addrs s = [s.hl]) ∧
  (∀ (n : Byte) (s : State) (e : Fault), exec (.ldh_A_indN8 n) s ≠ .fault e ∧ exec (.ldh_indN8_A n) s ≠ .fault e ∧
    exec .ld_A_indC s ≠ .fault e ∧ exec .ld_indC_A s ≠ .fault e)

/-- R111: an instruction that is not a jump, call, return or restart advances PC by its length, modulo 2^16. That the
total is the length, also on the extended page, is decision D29 of the spec; the wrap is D4 (R27). -/
def Obligations.OtherInstructionsAdvanceByTheirLength : Prop :=
  ∀ (i : Instr) (s t : State), ¬ ControlFlow i → exec i s = .next t → t.pc = s.pc + BitVec.ofNat 16 i.length

/-! ## Frames -/

/-- Frame of the instructions that make no data access, and of calls and returns not taken (R25, R83, R311): only what
the rule names changes; every byte reads as before; no draw is made; the timer counts the instruction's cycles. -/
def Obligations.FrameOfRegisterForms : Prop :=
  (∀ (i : Instr) (w : Writes) (s t : State), RegisterForm i w → exec i s = .next t →
    RegistersKept w s t ∧ MemoryKept s t ∧ t.extReads = s.extReads) ∧
  (∀ (i : Instr) (s t : State), SkipForm i s → exec i s = .next t →
    RegistersKept {} s t ∧ MemoryKept s t ∧ t.extReads = s.extReads)

/-- Frame of the instructions that read one data byte (R83): memory reads as before; an external address is one draw,
any other none. -/
def Obligations.FrameOfLoadForms : Prop :=
  ∀ (i : Instr) (addr : State → Word) (w : Writes) (s t : State), LoadForm i addr w → exec i s = .next t →
    RegistersKept w s t ∧ MemoryKept s t ∧
    t.extReads = if external (addr s) then s.extReads + 1 else s.extReads

/-- Frame of the instructions that store (R53, R83, R85): every byte that the addresses stored to do not reach reads as
before. -/
def Obligations.FrameOfStoreForms : Prop :=
  ∀ (i : Instr) (addrs : State → List Word) (w : Writes) (s t : State), StoreForm i addrs w →
    exec i s = .next t → RegistersKept w s t ∧ StoresOnly (addrs s) s t

/-- Frame of the stack instructions (R13, R241): a push changes SP and stores to the two bytes at the new SP; a pop
stores nothing and changes what its rule names. -/
def Obligations.FrameOfStackForms : Prop :=
  (∀ (i : Instr) (v : Word) (s t : State), PushForm i s v → exec i s = .next t →
    RegistersKept { sp := true } s t ∧ t.sp = s.sp - 2 ∧ StoresOnly [s.sp - 2, s.sp - 1] s t) ∧
  (∀ (i : Instr) (w : Writes) (s t : State), PopForm i s w → exec i s = .next t →
    RegistersKept w s t ∧ t.sp = s.sp + 2 ∧ MemoryKept s t)

/-! ## The Bus -/

/-- R50, R51, R57 to R61: every address belongs to one row of the dispatch table, and a read gives that owner's byte
with no side effect, a fresh draw for an external address, or the fault of a prohibited one. That the draw is
unconstrained is decision D7 of the spec, the fault's form D10; the draw is a free value (log entry 4). -/
def Obligations.BusReadsDispatchByAddress : Prop :=
  ∀ (addr : Word) (s : State),
    (addr.toNat < 0x8000 → readByte addr s = .ok (s.cart.readRom addr) s) ∧
    (0x8000 ≤ addr.toNat ∧ addr.toNat < 0xA000 ∨ 0xFE00 ≤ addr.toNat ∧ addr.toNat < 0xFEA0 ∨
      0xFF00 ≤ addr.toNat ∧ addr.toNat < 0xFF04 ∨ 0xFF08 ≤ addr.toNat ∧ addr.toNat < 0xFF80 →
      readByte addr s = .ok (Config.extRead s.extReads addr) { s with extReads := s.extReads + 1 }) ∧
    (0xA000 ≤ addr.toNat ∧ addr.toNat < 0xC000 → readByte addr s = .ok (s.cart.readRam addr) s) ∧
    (0xC000 ≤ addr.toNat ∧ addr.toNat < 0xE000 →
      readByte addr s = .ok (Memory.read s.wram (addr.toNat - 0xC000)) s) ∧
    (0xE000 ≤ addr.toNat ∧ addr.toNat < 0xFE00 ∨ 0xFEA0 ≤ addr.toNat ∧ addr.toNat < 0xFF00 →
      readByte addr s = .fault (raise (.prohibitedAccess addr .read) s)) ∧
    (addr = 0xFF04 → readByte addr s = .ok s.timer.div s) ∧
    (addr = 0xFF05 → readByte addr s = .ok s.timer.tima s) ∧
    (addr = 0xFF06 → readByte addr s = .ok s.timer.tma s) ∧
    (addr = 0xFF07 → readByte addr s = .ok s.timer.tac s) ∧
    (0xFF80 ≤ addr.toNat ∧ addr.toNat < 0xFFFF →
      readByte addr s = .ok (Memory.read s.hram (addr.toNat - 0xFF80)) s) ∧
    (addr = 0xFFFF → readByte addr s = .ok s.ie s)

/-- R50, R51, R53, R57 to R61, R313: a write goes to the owner of its address. The events' order in the record is the
model's (log entry 5); the effect of a DIV write is the parameter `DIV_WRITE` (D33). -/
def Obligations.BusWritesDispatchByAddress : Prop :=
  ∀ (addr : Word) (v : Byte) (s : State),
    (addr.toNat < 0x8000 → writeByte addr v s =
      .ok () { s with cart := { s.cart with ctrl := s.cart.ctrl.writeControl s.cfg addr v } }) ∧
    (0x8000 ≤ addr.toNat ∧ addr.toNat < 0xA000 ∨ 0xFE00 ≤ addr.toNat ∧ addr.toNat < 0xFEA0 ∨
      0xFF00 ≤ addr.toNat ∧ addr.toNat < 0xFF04 ∨ 0xFF08 ≤ addr.toNat ∧ addr.toNat < 0xFF80 →
      writeByte addr v s = .ok () { s with extWrites := { addr := addr, value := v } :: s.extWrites }) ∧
    (0xA000 ≤ addr.toNat ∧ addr.toNat < 0xC000 →
      writeByte addr v s = .ok () { s with cart := s.cart.writeRam addr v }) ∧
    (0xC000 ≤ addr.toNat ∧ addr.toNat < 0xE000 →
      writeByte addr v s = .ok () { s with wram := Memory.write s.wram (addr.toNat - 0xC000) v }) ∧
    (0xE000 ≤ addr.toNat ∧ addr.toNat < 0xFE00 ∨ 0xFEA0 ≤ addr.toNat ∧ addr.toNat < 0xFF00 →
      writeByte addr v s = .fault (raise (.prohibitedAccess addr .write) s)) ∧
    (addr = 0xFF04 → s.cfg.divWrite = .reset →
      writeByte addr v s = .ok () { s with timer := { s.timer with div := 0, divAcc := 0 } }) ∧
    (addr = 0xFF04 → s.cfg.divWrite = .store →
      writeByte addr v s = .ok () { s with timer := { s.timer with div := v } }) ∧
    (addr = 0xFF05 → writeByte addr v s = .ok () { s with timer := { s.timer with tima := v } }) ∧
    (addr = 0xFF06 → writeByte addr v s = .ok () { s with timer := { s.timer with tma := v } }) ∧
    (addr = 0xFF07 → writeByte addr v s = .ok () { s with timer := { s.timer with tac := v } }) ∧
    (0xFF80 ≤ addr.toNat ∧ addr.toNat < 0xFFFF →
      writeByte addr v s = .ok () { s with hram := Memory.write s.hram (addr.toNat - 0xFF80) v }) ∧
    (addr = 0xFFFF → writeByte addr v s = .ok () { s with ie := v })

/-- R52, R79: a 16-bit access is two byte accesses, the low byte at addr first, each dispatched on its own address, and
a faulting second byte keeps the first, so that a write's first byte stays written and a read's first draw made. The
wrap of addr + 1 is D4, the order D6. -/
def Obligations.WordAccessIsTwoByteAccesses : Prop :=
  (∀ (addr : Word) (s s1 s2 : State) (lo hi : Byte), readByte addr s = .ok lo s1 →
    readByte (addr + 1) s1 = .ok hi s2 →
    readWord addr s = .ok (BitVec.ofNat 16 (lo.toNat + 256 * hi.toNat)) s2) ∧
  (∀ (addr v : Word) (s s1 s2 : State), writeByte addr (BitVec.ofNat 8 v.toNat) s = .ok () s1 →
    writeByte (addr + 1) (BitVec.ofNat 8 (v.toNat / 256)) s1 = .ok () s2 → writeWord addr v s = .ok () s2) ∧
  (∀ (addr v : Word) (s : State) (e : Fault), writeByte addr (BitVec.ofNat 8 v.toNat) s = .fault e →
    writeWord addr v s = .fault e) ∧
  (∀ (addr v : Word) (s s1 : State) (e : Fault), writeByte addr (BitVec.ofNat 8 v.toNat) s = .ok () s1 →
    writeByte (addr + 1) (BitVec.ofNat 8 (v.toNat / 256)) s1 = .fault e → writeWord addr v s = .fault e) ∧
  (∀ (addr : Word) (s : State) (e : Fault), readByte addr s = .fault e → readWord addr s = .fault e) ∧
  (∀ (addr : Word) (s s1 : State) (lo : Byte) (e : Fault), readByte addr s = .ok lo s1 →
    readByte (addr + 1) s1 = .fault e → readWord addr s = .fault e)

/-- R86, R156: a read of plain storage gives the last byte written there, at every address that is plain storage: work
RAM, high RAM, IE, TIMA, TMA, TAC, and enabled cartridge RAM inside its size, four bits of it under RAMONLY. -/
def Obligations.ReadGivesTheLastByteWritten : Prop :=
  ∀ (addr : Word) (v : Byte) (s : State), s.Inv →
    (0xC000 ≤ addr.toNat ∧ addr.toNat < 0xE000 ∨ 0xFF80 ≤ addr.toNat ∨ addr = 0xFF05 ∨ addr = 0xFF06 ∨
      addr = 0xFF07 → busValue addr (busStore addr v s) = v) ∧
    (∀ r, s.cart.ctrl = .combo r → r.ramEnabled = true → 0xA000 ≤ addr.toNat ∧ addr.toNat < 0xC000 →
      s.cart.ramOffset addr < s.cart.ramSize → busValue addr (busStore addr v s) = v) ∧
    (∀ r, s.cart.ctrl = .ramonly r → r.ramEnabled = true → 0xA000 ≤ addr.toNat ∧ addr.toNat < 0xC000 →
      s.cart.ramOffset addr < s.cart.ramSize →
      (busValue addr (busStore addr v s)).toNat = v.toNat % 16)

/-! ## The bank controllers -/

/-- R62, R64: an offset beyond the bytes reads 0 and drops writes; RAM that is not enabled reads 0 and drops writes. -/
def Obligations.BoundsAndRamGating : Prop :=
  (∀ (k : Cart) (o : Nat), k.romAt o = if o < k.romSize then Memory.read k.rom o else 0x00) ∧
  (∀ (k : Cart) (o : Nat), k.cramAt o = if o < k.ramSize then Memory.read k.cram o else 0x00) ∧
  (∀ (k : Cart) (o : Nat) (v : Byte), k.cramPut o v =
    if o < k.ramSize then { k with cram := Memory.write k.cram o v } else k) ∧
  (∀ (k : Cart) (addr : Word) (v : Byte),
    ((∃ r, k.ctrl = .combo r ∧ r.ramEnabled = false) ∨ ∃ r, k.ctrl = .ramonly r ∧ r.ramEnabled = false) →
    k.readRam addr = 0x00 ∧ k.writeRam addr v = k)

/-- R68, R70: the COMBO write to 0x4000–0x5FFF, and COMBO's view of ROM. -/
def Obligations.ComboUpperBankWriteAndRomView : Prop :=
  (∀ (cfg : Config) (addr : Word) (v : Byte) (r : ComboRegs), 0x4000 ≤ addr.toNat ∧ addr.toNat < 0x6000 →
    (r.mode = .ram → r.writeControl cfg addr v = { r with ramBank := BitVec.ofNat 2 v.toNat }) ∧
    (r.mode = .rom → r.writeControl cfg addr v =
      { r with romBank := BitVec.ofNat 7 (r.romBank.toNat % 32 + v.toNat % 4 * 32) })) ∧
  (∀ (k : Cart) (r : ComboRegs) (addr : Word), k.ctrl = .combo r →
    (addr.toNat < 0x4000 → k.readRom addr = k.romAt addr.toNat) ∧
    (0x4000 ≤ addr.toNat ∧ addr.toNat < 0x8000 →
      k.readRom addr = k.romAt (r.romBank.toNat * 0x4000 + (addr.toNat - 0x4000))))

/-- R66, R67, R69, R71: the COMBO control writes and the view of cartridge RAM that the spec settles by its own
decisions (D12 sentinel, D13 coercion, D14 mode policy, D15 RAM offset). -/
def Obligations.ComboControlWritesAndRamView : Prop :=
  (∀ (cfg : Config) (addr : Word) (v : Byte) (r : ComboRegs),
    (addr.toNat < 0x2000 →
      r.writeControl cfg addr v = { r with ramEnabled := decide (v = cfg.ramEnableSentinel) }) ∧
    (0x2000 ≤ addr.toNat ∧ addr.toNat < 0x4000 →
      r.writeControl cfg addr v = { r with
        romBank := BitVec.ofNat 7 (r.romBank.toNat / 32 * 32 + if v.toNat % 32 = 0 then 1 else v.toNat % 32) }) ∧
    (0x6000 ≤ addr.toNat ∧ addr.toNat < 0x8000 →
      (cfg.modeWritePolicy = .toggle →
        r.writeControl cfg addr v = { r with mode := if r.mode = .rom then .ram else .rom }) ∧
      (cfg.modeWritePolicy = .setBit0 →
        r.writeControl cfg addr v = { r with mode := if v.toNat % 2 = 1 then .ram else .rom }))) ∧
  (∀ (k : Cart) (r : ComboRegs) (addr : Word) (v : Byte), k.ctrl = .combo r → r.ramEnabled = true →
    0xA000 ≤ addr.toNat → addr.toNat < 0xC000 →
    (r.mode = .rom → k.readRam addr = k.cramAt (addr.toNat - 0xA000) ∧
      k.writeRam addr v = k.cramPut (addr.toNat - 0xA000) v) ∧
    (r.mode = .ram → k.readRam addr = k.cramAt (r.ramBank.toNat * 0x2000 + (addr.toNat - 0xA000)) ∧
      k.writeRam addr v = k.cramPut (r.ramBank.toNat * 0x2000 + (addr.toNat - 0xA000)) v))

/-- R63: NONE indexes ROM directly, has no RAM, and ignores control writes (the last is decision D11 of the spec).
R73 to R78: the RAMONLY controller. Its ranges, select bit, sentinel and ROM view are decisions D17, D18 and D51. -/
def Obligations.NoneAndRamonlyControllers : Prop :=
  (∀ (k : Cart) (addr : Word) (v : Byte) (cfg : Config), k.ctrl = .none →
    (addr.toNat < 0x8000 → k.readRom addr = k.romAt addr.toNat ∧ k.writeRom cfg addr v = k) ∧
    k.readRam addr = 0x00 ∧ k.writeRam addr v = k) ∧
  (∀ (cfg : Config) (addr : Word) (v : Byte) (r : RamonlyRegs),
    (addr.toNat < 0x4000 → addr.getLsbD cfg.mbc2SelectBit = false →
      r.writeControl cfg addr v = { r with ramEnabled := decide (v = cfg.ramEnableSentinel) }) ∧
    (addr.toNat < 0x4000 → addr.getLsbD cfg.mbc2SelectBit = true →
      r.writeControl cfg addr v =
        { r with romBank := BitVec.ofNat 4 (if v.toNat % 16 = 0 then 1 else v.toNat % 16) }) ∧
    (0x4000 ≤ addr.toNat → r.writeControl cfg addr v = r)) ∧
  (∀ (k : Cart) (r : RamonlyRegs) (addr : Word), k.ctrl = .ramonly r →
    (addr.toNat < 0x4000 → k.readRom addr = k.romAt addr.toNat) ∧
    (0x4000 ≤ addr.toNat ∧ addr.toNat < 0x8000 →
      k.readRom addr = k.romAt (r.romBank.toNat * 0x4000 + (addr.toNat - 0x4000)))) ∧
  (∀ (k : Cart) (r : RamonlyRegs) (addr : Word) (v : Byte), k.ctrl = .ramonly r → r.ramEnabled = true →
    (k.readRam addr).toNat = (k.cramAt ((addr.toNat - 0xA000) % 0x200)).toNat % 16 ∧
    k.writeRam addr v = k.cramPut ((addr.toNat - 0xA000) % 0x200) (BitVec.ofNat 8 (v.toNat % 16)))

/-! ## The timer -/

/-- R314: the divider's accumulator accrues every cycle, and each full 256 is one increment of DIV, modulo 256, with no
other effect: the divider part of the tick touches neither the request bit nor any other register, and the counter part
does not touch the divider. -/
def Obligations.DividerCountsEveryCycle : Prop :=
  ∀ (c : Nat) (t : Timer), ∃ n m : Nat, t.divAcc + c = 256 * n + m ∧ m < 256 ∧
    t.tickDiv c = { t with div := t.div + BitVec.ofNat 8 n, divAcc := m } ∧
    (t.tick c).div = t.div + BitVec.ofNat 8 n ∧ (t.tick c).divAcc = m

/-- R315, R311: with TAC bit 2 clear the counter does not move; with it set, the accumulator accrues and the spec's loop
runs: below the threshold it stops, at or above it takes off one threshold, counts once, and goes on. The thresholds
are the reference hardware's, the immediate reload decision D32 of the spec. -/
def Obligations.CounterLoopOfTheTick : Prop :=
  (∀ (c : Nat) (t : Timer), t.tick c = (t.tickDiv c).tickTima c) ∧
  (∀ (c : Nat) (t : Timer), t.tac.toNat / 4 % 2 = 0 → t.tickTima c = t) ∧
  (∀ t : Timer, t.threshold = if t.tac.toNat % 4 = 0 then 1024 else if t.tac.toNat % 4 = 1 then 16
    else if t.tac.toNat % 4 = 2 then 64 else 256) ∧
  (∀ (c : Nat) (t : Timer), t.tac.toNat / 4 % 2 = 1 → t.timaAcc + c < t.threshold →
    t.tickTima c = { t with timaAcc := t.timaAcc + c }) ∧
  (∀ (c : Nat) (t : Timer), t.tac.toNat / 4 % 2 = 1 → t.threshold ≤ t.timaAcc + c →
    (t.tima.toNat = 255 → t.tickTima c =
      ({ t with timaAcc := t.timaAcc + c - t.threshold, tima := t.tma, irq := true } : Timer).tickTima 0) ∧
    (t.tima.toNat < 255 → t.tickTima c =
      ({ t with timaAcc := t.timaAcc + c - t.threshold, tima := t.tima + 1 } : Timer).tickTima 0))

/-! ## The ALU -/

/-- R130, R132: addition, at any width and any half-carry and carry position. -/
def Obligations.AluAdditionIsExact : Prop :=
  ∀ (w : Nat) (x y : BitVec w) (cin : Bool) (hb cb : Nat),
    (aluAdd x y cin hb cb).result.toNat = (x.toNat + y.toNat + cin.toNat) % 2 ^ w ∧
    ((aluAdd x y cin hb cb).half = true ↔ x.toNat % 2 ^ hb + y.toNat % 2 ^ hb + cin.toNat ≥ 2 ^ hb) ∧
    ((aluAdd x y cin hb cb).carry = true ↔ x.toNat % 2 ^ cb + y.toNat % 2 ^ cb + cin.toNat ≥ 2 ^ cb) ∧
    ((aluAdd x y cin hb cb).zero = true ↔ (x.toNat + y.toNat + cin.toNat) % 2 ^ w = 0)

/-- R131, R132: subtraction, exact as an integer difference modulo 2^w, with the borrows out of the two fields. That
"symmetric" means borrow is the spec's own derivation. -/
def Obligations.AluSubtractionIsExact : Prop :=
  ∀ (w : Nat) (x y : BitVec w) (cin : Bool) (hb cb : Nat),
    ((aluSub x y cin hb cb).result.toNat : Int) =
      ((x.toNat : Int) - (y.toNat : Int) - (cin.toNat : Int)) % (2 : Int) ^ w ∧
    ((aluSub x y cin hb cb).half = true ↔ x.toNat % 2 ^ hb < y.toNat % 2 ^ hb + cin.toNat) ∧
    ((aluSub x y cin hb cb).carry = true ↔ x.toNat % 2 ^ cb < y.toNat % 2 ^ cb + cin.toNat) ∧
    ((aluSub x y cin hb cb).zero = true ↔ (aluSub x y cin hb cb).result = BitVec.ofNat w 0)

/-- R180 to R195 by their pseudocode, R135, R136: what each accumulator operation with operand v does to A and F, as
numbers; everything else is unchanged. -/
def Obligations.AccumulatorOperations : Prop :=
  ∀ (v : Byte) (s : State),
    let x := s.a.toNat
    let y := v.toNat
    let c := s.flagC.toNat
    aluA .add v s = { s with
      a := BitVec.ofNat 8 (x + y)
      f := packFlags (decide ((x + y) % 256 = 0)) false (decide (15 < x % 16 + y % 16)) (decide (255 < x + y)) } ∧
    aluA .adc v s = { s with
      a := BitVec.ofNat 8 (x + y + c)
      f := packFlags (decide ((x + y + c) % 256 = 0)) false (decide (15 < x % 16 + y % 16 + c))
        (decide (255 < x + y + c)) } ∧
    aluA .sub v s = { s with
      a := BitVec.ofNat 8 (256 + x - y)
      f := packFlags (decide (x = y)) true (decide (x % 16 < y % 16)) (decide (x < y)) } ∧
    aluA .sbc v s = { s with
      a := BitVec.ofNat 8 (512 + x - y - c)
      f := packFlags (decide ((512 + x - y - c) % 256 = 0)) true (decide (x % 16 < y % 16 + c))
        (decide (x < y + c)) } ∧
    aluA .and v s = { s with a := s.a &&& v, f := packFlags (decide (s.a &&& v = 0)) false true false } ∧
    aluA .xor v s = { s with a := s.a ^^^ v, f := packFlags (decide (s.a = v)) false false false } ∧
    aluA .or v s = { s with
      a := s.a ||| v, f := packFlags (decide (x = 0 ∧ y = 0)) false false false } ∧
    aluA .cp v s = { s with
      f := packFlags (decide (x = y)) true (decide (x % 16 < y % 16)) (decide (x < y)) }

/-! ## Loads, stores and moves -/

/-- R150, R153: `LD r,r'` and `LD r,n8`. -/
def Obligations.LoadRegisterFromRegisterOrImmediate : Prop :=
  (∀ (dst r : Reg8) (s : State),
    encode (.ofLdRegReg dst r) = [BitVec.ofNat 8 (0x40 + 8 * dst.code + r.code)] ∧
    exec (.ofLdRegReg dst r) s = .next { s.setReg dst (s.reg r) with
      pc := s.pc + 1
      timer := s.timer.tick (s.cycles (0x40 + 8 * dst.code + r.code) 4)
      elapsed := s.elapsed + s.cycles (0x40 + 8 * dst.code + r.code) 4 }) ∧
  (∀ (dst : Reg8) (n : Byte) (s : State),
    encode (.ofLdRegImm dst n) = [BitVec.ofNat 8 (0x06 + 8 * dst.code), n] ∧
    exec (.ofLdRegImm dst n) s = .next { s.setReg dst n with
      pc := s.pc + 2
      timer := s.timer.tick (s.cycles (0x06 + 8 * dst.code) 8)
      elapsed := s.elapsed + s.cycles (0x06 + 8 * dst.code) 8 })

/-- R151, R152, R154: the moves between a register or an immediate and the byte at HL. -/
def Obligations.LoadAndStoreAtHL : Prop :=
  (∀ (dst : Reg8) (s : State),
    encode (.ofLdRegInd dst) = [BitVec.ofNat 8 (0x46 + 8 * dst.code)] ∧
    (prohibited s.hl = false → exec (.ofLdRegInd dst) s =
      .next { (busAfterRead s.hl s).setReg dst (busValue s.hl s) with
        pc := s.pc + 1
        timer := s.timer.tick (s.cycles (0x46 + 8 * dst.code) 8)
        elapsed := s.elapsed + s.cycles (0x46 + 8 * dst.code) 8 }) ∧
    (prohibited s.hl = true → exec (.ofLdRegInd dst) s =
      .fault (raise (.prohibitedAccess s.hl .read) { s with pc := s.pc + 1 }))) ∧
  (∀ (r : Reg8) (s : State),
    encode (.ofLdIndReg r) = [BitVec.ofNat 8 (0x70 + r.code)] ∧
    (prohibited s.hl = false → exec (.ofLdIndReg r) s =
      .next { busStore s.hl (s.reg r) s with
        pc := s.pc + 1
        timer := (busStore s.hl (s.reg r) s).timer.tick (s.cycles (0x70 + r.code) 8)
        elapsed := s.elapsed + s.cycles (0x70 + r.code) 8 }) ∧
    (prohibited s.hl = true → exec (.ofLdIndReg r) s =
      .fault (raise (.prohibitedAccess s.hl .write) { s with pc := s.pc + 1 }))) ∧
  (∀ (n : Byte) (s : State),
    encode (.ld_indHL_n8 n) = [0x36, n] ∧
    (prohibited s.hl = false → exec (.ld_indHL_n8 n) s =
      .next { busStore s.hl n s with
        pc := s.pc + 2
        timer := (busStore s.hl n s).timer.tick (s.cycles 0x36 12), elapsed := s.elapsed + s.cycles 0x36 12 }) ∧
    (prohibited s.hl = true → exec (.ld_indHL_n8 n) s =
      .fault (raise (.prohibitedAccess s.hl .write) { s with pc := s.pc + 1 })))

/-- R155 to R158: the moves between A and the byte at BC, at DE, or at an immediate address. -/
def Obligations.LoadAndStoreAThroughPairOrAddress : Prop :=
  (∀ (p : AddrPair) (s : State),
    encode (.ofLdAPair p) = [BitVec.ofNat 8 (0x0A + 16 * p.code)] ∧
    (prohibited (s.addrPair p) = false → exec (.ofLdAPair p) s =
      .next { busAfterRead (s.addrPair p) s with
        a := busValue (s.addrPair p) s, pc := s.pc + 1
        timer := s.timer.tick (s.cycles (0x0A + 16 * p.code) 8)
        elapsed := s.elapsed + s.cycles (0x0A + 16 * p.code) 8 }) ∧
    (prohibited (s.addrPair p) = true → exec (.ofLdAPair p) s =
      .fault (raise (.prohibitedAccess (s.addrPair p) .read) { s with pc := s.pc + 1 }))) ∧
  (∀ (p : AddrPair) (s : State),
    encode (.ofLdPairA p) = [BitVec.ofNat 8 (0x02 + 16 * p.code)] ∧
    (prohibited (s.addrPair p) = false → exec (.ofLdPairA p) s =
      .next { busStore (s.addrPair p) s.a s with
        pc := s.pc + 1
        timer := (busStore (s.addrPair p) s.a s).timer.tick (s.cycles (0x02 + 16 * p.code) 8)
        elapsed := s.elapsed + s.cycles (0x02 + 16 * p.code) 8 }) ∧
    (prohibited (s.addrPair p) = true → exec (.ofLdPairA p) s =
      .fault (raise (.prohibitedAccess (s.addrPair p) .write) { s with pc := s.pc + 1 }))) ∧
  (∀ s : State, s.addrPair .bc = s.bc ∧ s.addrPair .de = s.de) ∧
  (∀ (n : Word) (s : State),
    encode (.ld_A_indN16 n) = [0xFA, BitVec.ofNat 8 n.toNat, BitVec.ofNat 8 (n.toNat / 256)] ∧
    (prohibited n = false → exec (.ld_A_indN16 n) s =
      .next { busAfterRead n s with
        a := busValue n s, pc := s.pc + 3
        timer := s.timer.tick (s.cycles 0xFA 16), elapsed := s.elapsed + s.cycles 0xFA 16 }) ∧
    (prohibited n = true → exec (.ld_A_indN16 n) s =
      .fault (raise (.prohibitedAccess n .read) { s with pc := s.pc + 1 }))) ∧
  (∀ (n : Word) (s : State),
    encode (.ld_indN16_A n) = [0xEA, BitVec.ofNat 8 n.toNat, BitVec.ofNat 8 (n.toNat / 256)] ∧
    (prohibited n = false → exec (.ld_indN16_A n) s =
      .next { busStore n s.a s with
        pc := s.pc + 3
        timer := (busStore n s.a s).timer.tick (s.cycles 0xEA 16), elapsed := s.elapsed + s.cycles 0xEA 16 }) ∧
    (prohibited n = true → exec (.ld_indN16_A n) s =
      .fault (raise (.prohibitedAccess n .write) { s with pc := s.pc + 1 })))

/-- R159 to R162: the high page 0xFF00–0xFFFF, which holds no prohibited address: these never fault. -/
def Obligations.LoadAndStoreHighPage : Prop :=
  (∀ (n : Byte) (s : State),
    encode (.ldh_A_indN8 n) = [0xF0, n] ∧
    exec (.ldh_A_indN8 n) s = .next { busAfterRead (BitVec.ofNat 16 (0xFF00 + n.toNat)) s with
      a := busValue (BitVec.ofNat 16 (0xFF00 + n.toNat)) s
      pc := s.pc + 2, timer := s.timer.tick (s.cycles 0xF0 12), elapsed := s.elapsed + s.cycles 0xF0 12 } ∧
    encode (.ldh_indN8_A n) = [0xE0, n] ∧
    exec (.ldh_indN8_A n) s = .next { busStore (BitVec.ofNat 16 (0xFF00 + n.toNat)) s.a s with
      pc := s.pc + 2
      timer := (busStore (BitVec.ofNat 16 (0xFF00 + n.toNat)) s.a s).timer.tick (s.cycles 0xE0 12)
      elapsed := s.elapsed + s.cycles 0xE0 12 }) ∧
  (∀ s : State,
    encode .ld_A_indC = [0xF2] ∧
    exec .ld_A_indC s = .next { busAfterRead (BitVec.ofNat 16 (0xFF00 + s.c.toNat)) s with
      a := busValue (BitVec.ofNat 16 (0xFF00 + s.c.toNat)) s
      pc := s.pc + 1, timer := s.timer.tick (s.cycles 0xF2 8), elapsed := s.elapsed + s.cycles 0xF2 8 } ∧
    encode .ld_indC_A = [0xE2] ∧
    exec .ld_indC_A s = .next { busStore (BitVec.ofNat 16 (0xFF00 + s.c.toNat)) s.a s with
      pc := s.pc + 1
      timer := (busStore (BitVec.ofNat 16 (0xFF00 + s.c.toNat)) s.a s).timer.tick (s.cycles 0xE2 8)
      elapsed := s.elapsed + s.cycles 0xE2 8 })

/-- R163 to R166: the moves between A and the byte at HL that then step HL, modulo 2^16; a fault leaves HL unstepped. -/
def Obligations.LoadAndStoreSteppingHL : Prop :=
  ∀ s : State,
    encode .ld_indHLinc_A = [0x22] ∧ encode .ld_indHLdec_A = [0x32] ∧
    encode .ld_A_indHLinc = [0x2A] ∧ encode .ld_A_indHLdec = [0x3A] ∧
    (prohibited s.hl = false →
      exec .ld_indHLinc_A s = .next { (busStore s.hl s.a s).setHL (s.hl + 1) with
        pc := s.pc + 1
        timer := (busStore s.hl s.a s).timer.tick (s.cycles 0x22 8), elapsed := s.elapsed + s.cycles 0x22 8 } ∧
      exec .ld_indHLdec_A s = .next { (busStore s.hl s.a s).setHL (s.hl - 1) with
        pc := s.pc + 1
        timer := (busStore s.hl s.a s).timer.tick (s.cycles 0x32 8), elapsed := s.elapsed + s.cycles 0x32 8 } ∧
      exec .ld_A_indHLinc s = .next { (busAfterRead s.hl s).setHL (s.hl + 1) with
        a := busValue s.hl s, pc := s.pc + 1
        timer := s.timer.tick (s.cycles 0x2A 8), elapsed := s.elapsed + s.cycles 0x2A 8 } ∧
      exec .ld_A_indHLdec s = .next { (busAfterRead s.hl s).setHL (s.hl - 1) with
        a := busValue s.hl s, pc := s.pc + 1
        timer := s.timer.tick (s.cycles 0x3A 8), elapsed := s.elapsed + s.cycles 0x3A 8 }) ∧
    (prohibited s.hl = true →
      exec .ld_indHLinc_A s = .fault (raise (.prohibitedAccess s.hl .write) { s with pc := s.pc + 1 }) ∧
      exec .ld_indHLdec_A s = .fault (raise (.prohibitedAccess s.hl .write) { s with pc := s.pc + 1 }) ∧
      exec .ld_A_indHLinc s = .fault (raise (.prohibitedAccess s.hl .read) { s with pc := s.pc + 1 }) ∧
      exec .ld_A_indHLdec s = .fault (raise (.prohibitedAccess s.hl .read) { s with pc := s.pc + 1 }))

/-- R167, R169: `LD rr,n16` and `LD SP,HL`; neither checks the stack window. -/
def Obligations.LoadPairImmediateAndSPFromHL : Prop :=
  (∀ (n : Word) (s : State),
    encode (.ld_BC_n16 n) = [0x01, BitVec.ofNat 8 n.toNat, BitVec.ofNat 8 (n.toNat / 256)] ∧
    exec (.ld_BC_n16 n) s = .next { s with
      b := BitVec.ofNat 8 (n.toNat / 256), c := BitVec.ofNat 8 n.toNat
      pc := s.pc + 3, timer := s.timer.tick (s.cycles 0x01 12), elapsed := s.elapsed + s.cycles 0x01 12 } ∧
    encode (.ld_DE_n16 n) = [0x11, BitVec.ofNat 8 n.toNat, BitVec.ofNat 8 (n.toNat / 256)] ∧
    exec (.ld_DE_n16 n) s = .next { s with
      d := BitVec.ofNat 8 (n.toNat / 256), e := BitVec.ofNat 8 n.toNat
      pc := s.pc + 3, timer := s.timer.tick (s.cycles 0x11 12), elapsed := s.elapsed + s.cycles 0x11 12 } ∧
    encode (.ld_HL_n16 n) = [0x21, BitVec.ofNat 8 n.toNat, BitVec.ofNat 8 (n.toNat / 256)] ∧
    exec (.ld_HL_n16 n) s = .next { s with
      h := BitVec.ofNat 8 (n.toNat / 256), l := BitVec.ofNat 8 n.toNat
      pc := s.pc + 3, timer := s.timer.tick (s.cycles 0x21 12), elapsed := s.elapsed + s.cycles 0x21 12 } ∧
    encode (.ld_SP_n16 n) = [0x31, BitVec.ofNat 8 n.toNat, BitVec.ofNat 8 (n.toNat / 256)] ∧
    exec (.ld_SP_n16 n) s = .next { s with
      sp := n, pc := s.pc + 3, timer := s.timer.tick (s.cycles 0x31 12), elapsed := s.elapsed + s.cycles 0x31 12 }) ∧
  (∀ s : State, encode .ld_SP_HL = [0xF9] ∧
    exec .ld_SP_HL s = .next { s with
      sp := s.hl, pc := s.pc + 1, timer := s.timer.tick (s.cycles 0xF9 8), elapsed := s.elapsed + s.cycles 0xF9 8 })

/-- R168: `LD (n16),SP`, the low byte first; a second byte in a prohibited region faults after the first is written
(R305). -/
def Obligations.StoreSPToMemory : Prop :=
  ∀ (n : Word) (s : State),
    let lo := BitVec.ofNat 8 s.sp.toNat
    let hi := BitVec.ofNat 8 (s.sp.toNat / 256)
    let m := busStore (n + 1) hi (busStore n lo s)
    encode (.ld_indN16_SP n) = [0x08, BitVec.ofNat 8 n.toNat, BitVec.ofNat 8 (n.toNat / 256)] ∧
    (prohibited n = false → prohibited (n + 1) = false →
      exec (.ld_indN16_SP n) s = .next { m with
        pc := s.pc + 3, timer := m.timer.tick (s.cycles 0x08 20), elapsed := s.elapsed + s.cycles 0x08 20 }) ∧
    (prohibited n = true → exec (.ld_indN16_SP n) s =
      .fault (raise (.prohibitedAccess n .write) { s with pc := s.pc + 1 })) ∧
    (prohibited n = false → prohibited (n + 1) = true → exec (.ld_indN16_SP n) s =
      .fault (raise (.prohibitedAccess (n + 1) .write) { busStore n lo s with pc := s.pc + 1 }))

/-- R170, R203: `LD HL,SP+e8` and `ADD SP,e8`: the displacement is signed, Z and N are 0 whatever the result, and the
half-carry and carry come from the low nibble and the low byte of the unsigned addition. -/
def Obligations.StackPointerPlusDisplacement : Prop :=
  ∀ (e : Byte) (s : State),
    let r := s.sp + e.signExtend 16
    let f := packFlags false false (decide (15 < s.sp.toNat % 16 + e.toNat % 16))
      (decide (255 < s.sp.toNat % 256 + e.toNat))
    encode (.ld_HL_SPe8 e) = [0xF8, e] ∧
    exec (.ld_HL_SPe8 e) s = .next { s with
      h := BitVec.ofNat 8 (r.toNat / 256), l := BitVec.ofNat 8 r.toNat, f := f
      pc := s.pc + 2, timer := s.timer.tick (s.cycles 0xF8 12), elapsed := s.elapsed + s.cycles 0xF8 12 } ∧
    encode (.add_SP_e8 e) = [0xE8, e] ∧
    exec (.add_SP_e8 e) s = .next { s with
      sp := r, f := f, pc := s.pc + 2
      timer := s.timer.tick (s.cycles 0xE8 16), elapsed := s.elapsed + s.cycles 0xE8 16 }

/-! ## Arithmetic and logic -/

/-- R180 to R195: the accumulator instructions apply `aluA` (AccumulatorOperations says what that does) to a register,
the byte at HL or an immediate. -/
def Obligations.AccumulatorInstructions : Prop :=
  (∀ (op : AluOp) (r : Reg8) (s : State),
    encode (.ofAluR8 op (.reg r)) = [BitVec.ofNat 8 (0x80 + 8 * op.code + r.code)] ∧
    exec (.ofAluR8 op (.reg r)) s = .next { aluA op (s.reg r) s with
      pc := s.pc + 1
      timer := s.timer.tick (s.cycles (0x80 + 8 * op.code + r.code) 4)
      elapsed := s.elapsed + s.cycles (0x80 + 8 * op.code + r.code) 4 }) ∧
  (∀ (op : AluOp) (s : State),
    encode (.ofAluR8 op .indHL) = [BitVec.ofNat 8 (0x86 + 8 * op.code)] ∧
    (prohibited s.hl = false → exec (.ofAluR8 op .indHL) s =
      .next { aluA op (busValue s.hl s) (busAfterRead s.hl s) with
        pc := s.pc + 1
        timer := s.timer.tick (s.cycles (0x80 + 8 * op.code + 6) 8)
        elapsed := s.elapsed + s.cycles (0x80 + 8 * op.code + 6) 8 }) ∧
    (prohibited s.hl = true → exec (.ofAluR8 op .indHL) s =
      .fault (raise (.prohibitedAccess s.hl .read) { s with pc := s.pc + 1 }))) ∧
  (∀ (op : AluOp) (n : Byte) (s : State),
    encode (.ofAluImm op n) = [BitVec.ofNat 8 (0xC6 + 8 * op.code), n] ∧
    exec (.ofAluImm op n) s = .next { aluA op n s with
      pc := s.pc + 2
      timer := s.timer.tick (s.cycles (0xC6 + 8 * op.code) 8)
      elapsed := s.elapsed + s.cycles (0xC6 + 8 * op.code) 8 })

/-- R196 to R199, R137: 8-bit INC and DEC write Z, N and Hf, and never Cf. -/
def Obligations.IncrementAndDecrementByte : Prop :=
  (∀ (r : Reg8) (s : State),
    let v := s.reg r
    encode (.ofIncReg r) = [BitVec.ofNat 8 (0x04 + 8 * r.code)] ∧
    exec (.ofIncReg r) s = .next { s.setReg r (v + 1) with
      f := packFlags (decide (v.toNat = 255)) false (decide (v.toNat % 16 = 15)) s.flagC
      pc := s.pc + 1
      timer := s.timer.tick (s.cycles (0x04 + 8 * r.code) 4)
      elapsed := s.elapsed + s.cycles (0x04 + 8 * r.code) 4 } ∧
    encode (.ofDecReg r) = [BitVec.ofNat 8 (0x05 + 8 * r.code)] ∧
    exec (.ofDecReg r) s = .next { s.setReg r (v - 1) with
      f := packFlags (decide (v.toNat = 1)) true (decide (v.toNat % 16 = 0)) s.flagC
      pc := s.pc + 1
      timer := s.timer.tick (s.cycles (0x05 + 8 * r.code) 4)
      elapsed := s.elapsed + s.cycles (0x05 + 8 * r.code) 4 }) ∧
  (∀ s : State,
    let v := busValue s.hl s
    let m := busStore s.hl (v + 1) (busAfterRead s.hl s)
    let k := busStore s.hl (v - 1) (busAfterRead s.hl s)
    encode .inc_indHL = [0x34] ∧ encode .dec_indHL = [0x35] ∧
    (prohibited s.hl = false →
      exec .inc_indHL s = .next { m with
        f := packFlags (decide (v.toNat = 255)) false (decide (v.toNat % 16 = 15)) s.flagC
        pc := s.pc + 1, timer := m.timer.tick (s.cycles 0x34 12), elapsed := s.elapsed + s.cycles 0x34 12 } ∧
      exec .dec_indHL s = .next { k with
        f := packFlags (decide (v.toNat = 1)) true (decide (v.toNat % 16 = 0)) s.flagC
        pc := s.pc + 1, timer := k.timer.tick (s.cycles 0x35 12), elapsed := s.elapsed + s.cycles 0x35 12 }) ∧
    (prohibited s.hl = true →
      exec .inc_indHL s = .fault (raise (.prohibitedAccess s.hl .read) { s with pc := s.pc + 1 }) ∧
      exec .dec_indHL s = .fault (raise (.prohibitedAccess s.hl .read) { s with pc := s.pc + 1 })))

/-- R200, R201: 16-bit INC and DEC wrap and touch no flag; INC SP and DEC SP do not check the stack window. -/
def Obligations.IncrementAndDecrementPair : Prop :=
  ∀ (p : Pair) (s : State),
    encode (.ofIncPair p) = [BitVec.ofNat 8 (0x03 + 16 * p.code)] ∧
    exec (.ofIncPair p) s = .next { s.setPair p (s.pair p + 1) with
      pc := s.pc + 1
      timer := s.timer.tick (s.cycles (0x03 + 16 * p.code) 8)
      elapsed := s.elapsed + s.cycles (0x03 + 16 * p.code) 8 } ∧
    encode (.ofDecPair p) = [BitVec.ofNat 8 (0x0B + 16 * p.code)] ∧
    exec (.ofDecPair p) s = .next { s.setPair p (s.pair p - 1) with
      pc := s.pc + 1
      timer := s.timer.tick (s.cycles (0x0B + 16 * p.code) 8)
      elapsed := s.elapsed + s.cycles (0x0B + 16 * p.code) 8 } ∧
    s.pair .bc = s.bc ∧ s.pair .de = s.de ∧ s.pair .hl = s.hl ∧ s.pair .sp = s.sp ∧
    (∀ v : Word, s.setPair .bc v = s.setBC v ∧ s.setPair .de v = s.setDE v ∧ s.setPair .hl v = s.setHL v ∧
      s.setPair .sp v = { s with sp := v })

/-- R202: `ADD HL,rr`: carries out of bits 11 and 15, Z unchanged (D47). -/
def Obligations.AddPairToHL : Prop :=
  ∀ (p : Pair) (s : State),
    let x := s.hl.toNat
    let y := (s.pair p).toNat
    encode (.ofAddHL p) = [BitVec.ofNat 8 (0x09 + 16 * p.code)] ∧
    exec (.ofAddHL p) s = .next { s with
      h := BitVec.ofNat 8 ((x + y) % 65536 / 256), l := BitVec.ofNat 8 (x + y)
      f := packFlags s.flagZ false (decide (4095 < x % 4096 + y % 4096)) (decide (65535 < x + y))
      pc := s.pc + 1
      timer := s.timer.tick (s.cycles (0x09 + 16 * p.code) 8)
      elapsed := s.elapsed + s.cycles (0x09 + 16 * p.code) 8 }

/-! ## Rotates, shifts and bits (adopted by decision D49 of the spec) -/

/-- R210 to R222: the eight rotates and shifts as numbers: the result and the bit shifted out. -/
def Obligations.RotateAndShiftResults : Prop :=
  ∀ (v : Byte) (cin : Bool),
    let x := v.toNat
    rotShift .rlc v cin = (BitVec.ofNat 8 (2 * x + x / 128), decide (128 ≤ x)) ∧
    rotShift .rrc v cin = (BitVec.ofNat 8 (x / 2 + 128 * (x % 2)), decide (x % 2 = 1)) ∧
    rotShift .rl v cin = (BitVec.ofNat 8 (2 * x + cin.toNat), decide (128 ≤ x)) ∧
    rotShift .rr v cin = (BitVec.ofNat 8 (x / 2 + 128 * cin.toNat), decide (x % 2 = 1)) ∧
    rotShift .sla v cin = (BitVec.ofNat 8 (2 * x), decide (128 ≤ x)) ∧
    rotShift .sra v cin = (BitVec.ofNat 8 (x / 2 + 128 * (x / 128)), decide (x % 2 = 1)) ∧
    rotShift .swap v cin = (BitVec.ofNat 8 (x % 16 * 16 + x / 16), false) ∧
    rotShift .srl v cin = (BitVec.ofNat 8 (x / 2), decide (x % 2 = 1))

/-- R210 to R222: the accumulator rotates clear Z; the CB forms set Z from the result, on a register or on the byte at
HL by a read and a write. -/
def Obligations.RotateAndShiftInstructions : Prop :=
  (∀ s : State,
    encode .rlca = [0x07] ∧ encode .rrca = [0x0F] ∧ encode .rla = [0x17] ∧ encode .rra = [0x1F] ∧
    (∀ p ∈ [(Instr.rlca, RotOp.rlc), (.rrca, .rrc), (.rla, .rl), (.rra, .rr)],
      exec p.1 s = .next { s with
        a := (rotShift p.2 s.a s.flagC).1, f := packFlags false false false (rotShift p.2 s.a s.flagC).2
        pc := s.pc + 1
        timer := s.timer.tick (s.cycles (0x07 + 8 * p.2.code) 4)
        elapsed := s.elapsed + s.cycles (0x07 + 8 * p.2.code) 4 })) ∧
  (∀ (op : RotOp) (r : Reg8) (s : State),
    let q := rotShift op (s.reg r) s.flagC
    encode (.ofRot op (.reg r)) = [0xCB, BitVec.ofNat 8 (8 * op.code + r.code)] ∧
    exec (.ofRot op (.reg r)) s = .next { s.setReg r q.1 with
      f := packFlags (decide (q.1 = 0)) false false q.2
      pc := s.pc + 2
      timer := s.timer.tick (s.cycles (0xCB00 + 8 * op.code + r.code) 8)
      elapsed := s.elapsed + s.cycles (0xCB00 + 8 * op.code + r.code) 8 }) ∧
  (∀ (op : RotOp) (s : State),
    let q := rotShift op (busValue s.hl s) s.flagC
    let m := busStore s.hl q.1 (busAfterRead s.hl s)
    encode (.ofRot op .indHL) = [0xCB, BitVec.ofNat 8 (8 * op.code + 6)] ∧
    (prohibited s.hl = false → exec (.ofRot op .indHL) s = .next { m with
      f := packFlags (decide (q.1 = 0)) false false q.2
      pc := s.pc + 2
      timer := m.timer.tick (s.cycles (0xCB00 + 8 * op.code + 6) 16)
      elapsed := s.elapsed + s.cycles (0xCB00 + 8 * op.code + 6) 16 }) ∧
    (prohibited s.hl = true → exec (.ofRot op .indHL) s =
      .fault (raise (.prohibitedAccess s.hl .read) { s with pc := s.pc + 2 })))

/-- R223 to R225: BIT reads a bit into Z; RES and SET write the operand and no flag. -/
def Obligations.BitTestResetAndSet : Prop :=
  (∀ (y : Fin 8) (r : Reg8) (s : State),
    encode (.ofBit y (.reg r)) = [0xCB, BitVec.ofNat 8 (0x40 + 8 * y.val + r.code)] ∧
    exec (.ofBit y (.reg r)) s = .next { s with
      f := packFlags (decide ((s.reg r).toNat / 2 ^ y.val % 2 = 0)) false true s.flagC
      pc := s.pc + 2
      timer := s.timer.tick (s.cycles (0xCB40 + 8 * y.val + r.code) 8)
      elapsed := s.elapsed + s.cycles (0xCB40 + 8 * y.val + r.code) 8 } ∧
    encode (.ofRes y (.reg r)) = [0xCB, BitVec.ofNat 8 (0x80 + 8 * y.val + r.code)] ∧
    exec (.ofRes y (.reg r)) s = .next { s.setReg r (s.reg r &&& ~~~(BitVec.ofNat 8 (2 ^ y.val))) with
      pc := s.pc + 2
      timer := s.timer.tick (s.cycles (0xCB80 + 8 * y.val + r.code) 8)
      elapsed := s.elapsed + s.cycles (0xCB80 + 8 * y.val + r.code) 8 } ∧
    encode (.ofSet y (.reg r)) = [0xCB, BitVec.ofNat 8 (0xC0 + 8 * y.val + r.code)] ∧
    exec (.ofSet y (.reg r)) s = .next { s.setReg r (s.reg r ||| BitVec.ofNat 8 (2 ^ y.val)) with
      pc := s.pc + 2
      timer := s.timer.tick (s.cycles (0xCBC0 + 8 * y.val + r.code) 8)
      elapsed := s.elapsed + s.cycles (0xCBC0 + 8 * y.val + r.code) 8 }) ∧
  (∀ (y : Fin 8) (s : State),
    let v := busValue s.hl s
    let k := busAfterRead s.hl s
    let m0 := busStore s.hl (v &&& ~~~(BitVec.ofNat 8 (2 ^ y.val))) k
    let m1 := busStore s.hl (v ||| BitVec.ofNat 8 (2 ^ y.val)) k
    encode (.ofBit y .indHL) = [0xCB, BitVec.ofNat 8 (0x46 + 8 * y.val)] ∧
    encode (.ofRes y .indHL) = [0xCB, BitVec.ofNat 8 (0x86 + 8 * y.val)] ∧
    encode (.ofSet y .indHL) = [0xCB, BitVec.ofNat 8 (0xC6 + 8 * y.val)] ∧
    (prohibited s.hl = false →
      exec (.ofBit y .indHL) s = .next { k with
        f := packFlags (decide (v.toNat / 2 ^ y.val % 2 = 0)) false true s.flagC
        pc := s.pc + 2
        timer := s.timer.tick (s.cycles (0xCB40 + 8 * y.val + 6) 12)
        elapsed := s.elapsed + s.cycles (0xCB40 + 8 * y.val + 6) 12 } ∧
      exec (.ofRes y .indHL) s = .next { m0 with
        pc := s.pc + 2
        timer := m0.timer.tick (s.cycles (0xCB80 + 8 * y.val + 6) 16)
        elapsed := s.elapsed + s.cycles (0xCB80 + 8 * y.val + 6) 16 } ∧
      exec (.ofSet y .indHL) s = .next { m1 with
        pc := s.pc + 2
        timer := m1.timer.tick (s.cycles (0xCBC0 + 8 * y.val + 6) 16)
        elapsed := s.elapsed + s.cycles (0xCBC0 + 8 * y.val + 6) 16 }) ∧
    (prohibited s.hl = true →
      ∀ i ∈ [Instr.ofBit y .indHL, .ofRes y .indHL, .ofSet y .indHL],
        exec i s = .fault (raise (.prohibitedAccess s.hl .read) { s with pc := s.pc + 2 })))

/-! ## Control flow and the stack -/

/-- R242 to R247: absolute and relative jumps, on the flags before the instruction. -/
def Obligations.AbsoluteAndRelativeJumps : Prop :=
  (∀ s : State, (s.cond .nz = !s.flagZ) ∧ s.cond .z = s.flagZ ∧ (s.cond .nc = !s.flagC) ∧ s.cond .c = s.flagC) ∧
  (∀ (n : Word) (s : State), encode (.jp_n16 n) = [0xC3, BitVec.ofNat 8 n.toNat, BitVec.ofNat 8 (n.toNat / 256)] ∧
    exec (.jp_n16 n) s = .next { s with
      pc := n
      timer := s.timer.tick (s.cycles 0xC3 16), elapsed := s.elapsed + s.cycles 0xC3 16 }) ∧
  (∀ (cc : Cond) (n : Word) (s : State),
    encode (.ofJpCond cc n) =
      [BitVec.ofNat 8 (0xC2 + 8 * cc.code), BitVec.ofNat 8 n.toNat, BitVec.ofNat 8 (n.toNat / 256)] ∧
    (s.cond cc = true → exec (.ofJpCond cc n) s =
      .next { s with
        pc := n
        timer := s.timer.tick (s.cycles (0xC2 + 8 * cc.code) 16)
        elapsed := s.elapsed + s.cycles (0xC2 + 8 * cc.code) 16 }) ∧
    (s.cond cc = false → exec (.ofJpCond cc n) s =
      .next { s with
        pc := s.pc + 3
        timer := s.timer.tick (s.cyclesNotTaken (0xC2 + 8 * cc.code) 12)
        elapsed := s.elapsed + s.cyclesNotTaken (0xC2 + 8 * cc.code) 12 })) ∧
  (∀ s : State, encode .jp_HL = [0xE9] ∧
    exec .jp_HL s = .next { s with
      pc := s.hl
      timer := s.timer.tick (s.cycles 0xE9 4), elapsed := s.elapsed + s.cycles 0xE9 4 }) ∧
  (∀ (e : Byte) (s : State), encode (.jr_e8 e) = [0x18, e] ∧
    exec (.jr_e8 e) s = .next { s with
      pc := s.pc + 2 + e.signExtend 16
      timer := s.timer.tick (s.cycles 0x18 12), elapsed := s.elapsed + s.cycles 0x18 12 }) ∧
  (∀ (cc : Cond) (e : Byte) (s : State), encode (.ofJrCond cc e) = [BitVec.ofNat 8 (0x20 + 8 * cc.code), e] ∧
    (s.cond cc = true → exec (.ofJrCond cc e) s = .next { s with
      pc := s.pc + 2 + e.signExtend 16
      timer := s.timer.tick (s.cycles (0x20 + 8 * cc.code) 12)
      elapsed := s.elapsed + s.cycles (0x20 + 8 * cc.code) 12 }) ∧
    (s.cond cc = false → exec (.ofJrCond cc e) s = .next { s with
      pc := s.pc + 2
      timer := s.timer.tick (s.cyclesNotTaken (0x20 + 8 * cc.code) 8)
      elapsed := s.elapsed + s.cyclesNotTaken (0x20 + 8 * cc.code) 8 }))

/-- R248, R249, R253, R256 with the `Push16` of R13: when the moved SP is in the window (and, for a window other than
the default, the two bytes are accessible), calls, restarts and pushes complete so; a conditional call not taken
touches neither SP nor memory. -/
def Obligations.CallsRestartsAndPushesComplete : Prop :=
  ∀ s : State,
    let pushed := fun (v target : Word) (cycles : Nat) =>
      let m := busStore (s.sp - 1) (BitVec.ofNat 8 (v.toNat / 256)) (busStore (s.sp - 2) (BitVec.ofNat 8 v.toNat) s)
      Host.Outcome.next (φ := Fault) (ρ := Refusal)
        { m with sp := s.sp - 2, pc := target, timer := m.timer.tick cycles, elapsed := s.elapsed + cycles }
    (∀ n : Word, encode (.call_n16 n) = [0xCD, BitVec.ofNat 8 n.toNat, BitVec.ofNat 8 (n.toNat / 256)]) ∧
    (∀ (cc : Cond) (n : Word), encode (.ofCallCond cc n) =
      [BitVec.ofNat 8 (0xC4 + 8 * cc.code), BitVec.ofNat 8 n.toNat, BitVec.ofNat 8 (n.toNat / 256)]) ∧
    (∀ p : StackPair, encode (.ofPush p) = [BitVec.ofNat 8 (0xC5 + 16 * p.code)]) ∧
    (∀ y : Fin 8, encode (.ofRst y) = [BitVec.ofNat 8 (0xC7 + 8 * y.val)]) ∧
    (s.stackPair .bc = s.bc ∧ s.stackPair .de = s.de ∧ s.stackPair .hl = s.hl ∧ s.stackPair .af = s.af) ∧
    (inStackWindow s.cfg (s.sp - 2) = true → wordAccessible (s.sp - 2) = true →
      (∀ n : Word, exec (.call_n16 n) s = pushed (s.pc + 3) n (s.cycles 0xCD 24)) ∧
      (∀ (cc : Cond) (n : Word), s.cond cc = true →
        exec (.ofCallCond cc n) s = pushed (s.pc + 3) n (s.cycles (0xC4 + 8 * cc.code) 24)) ∧
      (∀ p : StackPair,
        exec (.ofPush p) s = pushed (s.stackPair p) (s.pc + 1) (s.cycles (0xC5 + 16 * p.code) 16)) ∧
      (∀ y : Fin 8, exec (.ofRst y) s =
        pushed (s.pc + 1) (BitVec.ofNat 16 (8 * y.val)) (s.cycles (0xC7 + 8 * y.val) 16))) ∧
    (∀ (cc : Cond) (n : Word), s.cond cc = false → exec (.ofCallCond cc n) s =
      .next { s with
        pc := s.pc + 3
        timer := s.timer.tick (s.cyclesNotTaken (0xC4 + 8 * cc.code) 12)
        elapsed := s.elapsed + s.cyclesNotTaken (0xC4 + 8 * cc.code) 12 })

/-- R250 to R252, R254, R255 with the `Pop16` of R13: returns and pops. RETI sets IME (D26); POP AF keeps F's low nibble
0 (D43). A conditional return not taken reads no memory and leaves SP, even outside the window. -/
def Obligations.ReturnsAndPopsComplete : Prop :=
  ∀ s : State,
    let lo := busValue s.sp s
    let hi := busValue (s.sp + 1) (busAfterRead s.sp s)
    let v := BitVec.ofNat 16 (lo.toNat + 256 * hi.toNat)
    let m := busAfterRead (s.sp + 1) (busAfterRead s.sp s)
    encode .ret = [0xC9] ∧ encode .reti = [0xD9] ∧ encode .pop_AF = [0xF1] ∧
    (∀ cc : Cond, encode (.ofRetCond cc) = [BitVec.ofNat 8 (0xC0 + 8 * cc.code)]) ∧
    encode .pop_BC = [0xC1] ∧ encode .pop_DE = [0xD1] ∧ encode .pop_HL = [0xE1] ∧
    (inStackWindow s.cfg (s.sp + 2) = true → wordAccessible s.sp = true →
      exec .ret s = .next { m with
        sp := s.sp + 2, pc := v, timer := s.timer.tick (s.cycles 0xC9 16), elapsed := s.elapsed + s.cycles 0xC9 16 } ∧
      (∀ cc : Cond, s.cond cc = true → exec (.ofRetCond cc) s = .next { m with
        sp := s.sp + 2, pc := v
        timer := s.timer.tick (s.cycles (0xC0 + 8 * cc.code) 20)
        elapsed := s.elapsed + s.cycles (0xC0 + 8 * cc.code) 20 }) ∧
      exec .reti s = .next { m with
        sp := s.sp + 2, pc := v, ime := true
        timer := s.timer.tick (s.cycles 0xD9 16), elapsed := s.elapsed + s.cycles 0xD9 16 } ∧
      exec .pop_BC s = .next { m with
        b := hi, c := lo, sp := s.sp + 2, pc := s.pc + 1
        timer := s.timer.tick (s.cycles 0xC1 12), elapsed := s.elapsed + s.cycles 0xC1 12 } ∧
      exec .pop_DE s = .next { m with
        d := hi, e := lo, sp := s.sp + 2, pc := s.pc + 1
        timer := s.timer.tick (s.cycles 0xD1 12), elapsed := s.elapsed + s.cycles 0xD1 12 } ∧
      exec .pop_HL s = .next { m with
        h := hi, l := lo, sp := s.sp + 2, pc := s.pc + 1
        timer := s.timer.tick (s.cycles 0xE1 12), elapsed := s.elapsed + s.cycles 0xE1 12 } ∧
      exec .pop_AF s = .next { m with
        a := hi, f := BitVec.ofNat 8 (lo.toNat / 16 * 16)
        sp := s.sp + 2, pc := s.pc + 1
        timer := s.timer.tick (s.cycles 0xF1 12), elapsed := s.elapsed + s.cycles 0xF1 12 }) ∧
    (∀ cc : Cond, s.cond cc = false → exec (.ofRetCond cc) s =
      .next { s with
        pc := s.pc + 1
        timer := s.timer.tick (s.cyclesNotTaken (0xC0 + 8 * cc.code) 8)
        elapsed := s.elapsed + s.cyclesNotTaken (0xC0 + 8 * cc.code) 8 })

/-- R240, R241, R13: every stack move checks the moved SP before its memory accesses and faults outside the window with
SP moved; the default window is 0xFF80–0xFFFE, where no prohibited address is reached. The window and the order of
the check are decisions D23 and D24 of the spec. -/
def Obligations.StackMovesAreCheckedBeforeMemory : Prop :=
  (∀ (i : Instr) (v : Word) (s : State), PushForm i s v → inStackWindow s.cfg (s.sp - 2) = false →
    exec i s = .fault (raise (.stackFault (s.sp - 2)) { s with sp := s.sp - 2, pc := s.pc + 1 })) ∧
  (∀ (i : Instr) (w : Writes) (s : State), PopForm i s w → inStackWindow s.cfg (s.sp + 2) = false →
    exec i s = .fault (raise (.stackFault (s.sp + 2)) { s with sp := s.sp + 2, pc := s.pc + 1 })) ∧
  (∀ (cfg : Config) (sp : Word), inStackWindow cfg sp = true ↔
    cfg.stackLo.toNat ≤ sp.toNat ∧ sp.toNat ≤ cfg.stackHi.toNat) ∧
  (∀ sp : Word, inStackWindow defaultConfig sp = true → 0xFF80 ≤ sp.toNat ∧ sp.toNat ≤ 0xFFFE ∧
    wordAccessible sp = true ∧ wordAccessible (sp - 2) = true) ∧
  (∀ (i : Instr) (v : Word) (s : State), PushForm i s v → inStackWindow s.cfg (s.sp - 2) = true →
    (prohibited (s.sp - 2) = true → exec i s =
      .fault (raise (.prohibitedAccess (s.sp - 2) .write) { s with sp := s.sp - 2, pc := s.pc + 1 })) ∧
    (prohibited (s.sp - 2) = false → prohibited (s.sp - 1) = true → exec i s =
      .fault (raise (.prohibitedAccess (s.sp - 1) .write)
        { busStore (s.sp - 2) (BitVec.ofNat 8 v.toNat) s with sp := s.sp - 2, pc := s.pc + 1 }))) ∧
  (∀ (i : Instr) (w : Writes) (s : State), PopForm i s w → inStackWindow s.cfg (s.sp + 2) = true →
    (prohibited s.sp = true → exec i s =
      .fault (raise (.prohibitedAccess s.sp .read) { s with sp := s.sp + 2, pc := s.pc + 1 })) ∧
    (prohibited s.sp = false → prohibited (s.sp + 1) = true → exec i s =
      .fault (raise (.prohibitedAccess (s.sp + 1) .read)
        { busAfterRead s.sp s with sp := s.sp + 2, pc := s.pc + 1 })))

/-! ## Miscellaneous (adopted by decision D49 of the spec) -/

/-- R270 to R274: NOP, DAA, CPL, SCF, CCF; DAA's A and Cf by the pseudocode of R271, as numbers, for all inputs. -/
def Obligations.AccumulatorAndFlagMiscellany : Prop :=
  (∀ (a : Byte) (h c : Bool),
    let x := a.toNat
    let up := decide (c = true ∨ 0x99 < x)
    decimalAdjust a false h c =
      (BitVec.ofNat 8 (x + (if up then 0x60 else 0) + (if h = true ∨ 9 < x % 16 then 0x06 else 0)), up) ∧
    decimalAdjust a true h c =
      (BitVec.ofNat 8 (x + 512 - (if c then 0x60 else 0) - (if h then 0x06 else 0)), c)) ∧
  ∀ s : State,
    let q := decimalAdjust s.a s.flagN s.flagH s.flagC
    encode .nop = [0x00] ∧ encode .daa = [0x27] ∧ encode .cpl = [0x2F] ∧ encode .scf = [0x37] ∧
    encode .ccf = [0x3F] ∧
    exec .nop s = .next { s with
      pc := s.pc + 1
      timer := s.timer.tick (s.cycles 0x00 4), elapsed := s.elapsed + s.cycles 0x00 4 } ∧
    exec .daa s = .next { s with
      a := q.1, f := packFlags (decide (q.1 = 0)) s.flagN false q.2
      pc := s.pc + 1, timer := s.timer.tick (s.cycles 0x27 4), elapsed := s.elapsed + s.cycles 0x27 4 } ∧
    exec .cpl s = .next { s with
      a := BitVec.ofNat 8 (255 - s.a.toNat), f := packFlags s.flagZ true true s.flagC
      pc := s.pc + 1, timer := s.timer.tick (s.cycles 0x2F 4), elapsed := s.elapsed + s.cycles 0x2F 4 } ∧
    exec .scf s = .next { s with
      f := packFlags s.flagZ false false true
      pc := s.pc + 1, timer := s.timer.tick (s.cycles 0x37 4), elapsed := s.elapsed + s.cycles 0x37 4 } ∧
    exec .ccf s = .next { s with
      f := packFlags s.flagZ false false (!s.flagC)
      pc := s.pc + 1, timer := s.timer.tick (s.cycles 0x3F 4), elapsed := s.elapsed + s.cycles 0x3F 4 }

/-- R180, R184, R271 together: on two-digit decimal numbers in BCD, ADD then DAA is decimal addition with carry, and SUB
then DAA is decimal subtraction with borrow (the glossary: half-carry is "required for decimal-adjust correctness"). -/
def Obligations.DecimalAdjustGivesDecimalSums : Prop :=
  ∀ (x y : Nat) (s : State), x < 100 → y < 100 →
    let bcd := fun n : Nat => BitVec.ofNat 8 (n / 10 * 16 + n % 10)
    let sum := aluA .add (bcd y) { s with a := bcd x }
    let dif := aluA .sub (bcd y) { s with a := bcd x }
    decimalAdjust sum.a sum.flagN sum.flagH sum.flagC = (bcd ((x + y) % 100), decide (100 ≤ x + y)) ∧
    decimalAdjust dif.a dif.flagN dif.flagH dif.flagC = (bcd ((100 + x - y) % 100), decide (x < y))

/-- R275 to R278: DI and EI write IME at once (D27); HALT and STOP complete their step and end the run (D25). -/
def Obligations.InterruptFlagHaltAndStop : Prop :=
  ∀ s : State,
    encode .di = [0xF3] ∧ encode .ei = [0xFB] ∧ encode .halt = [0x76] ∧
    (encode .stop).length = 2 ∧ (encode .stop).head? = some 0x10 ∧
    exec .di s = .next { s with
      ime := false, pc := s.pc + 1
      timer := s.timer.tick (s.cycles 0xF3 4), elapsed := s.elapsed + s.cycles 0xF3 4 } ∧
    exec .ei s = .next { s with
      ime := true, pc := s.pc + 1, timer := s.timer.tick (s.cycles 0xFB 4), elapsed := s.elapsed + s.cycles 0xFB 4 } ∧
    exec .halt s = .next { s with
      status := .stopped .halt, pc := s.pc + 1
      timer := s.timer.tick (s.cycles 0x76 4), elapsed := s.elapsed + s.cycles 0x76 4 } ∧
    exec .stop s = .next { s with
      status := .stopped .stop, pc := s.pc + 2
      timer := s.timer.tick (s.cycles 0x10 4), elapsed := s.elapsed + s.cycles 0x10 4 }

/-- R114, R103: the eleven unassigned codes, and no other instruction, are ill formed; each stops with IllegalOpcode of
its address and code, PC past the fetched byte, nothing else changed. -/
def Obligations.UnassignedCodesRaiseIllegalOpcode : Prop :=
  (∀ p ∈ [(Instr.illegal_D3, 0xD3#8), (.illegal_DB, 0xDB#8), (.illegal_DD, 0xDD#8), (.illegal_E3, 0xE3#8),
      (.illegal_E4, 0xE4#8), (.illegal_EB, 0xEB#8), (.illegal_EC, 0xEC#8), (.illegal_ED, 0xED#8),
      (.illegal_F4, 0xF4#8), (.illegal_FC, 0xFC#8), (.illegal_FD, 0xFD#8)],
    encode p.1 = [p.2] ∧ p.1.wellFormed = false ∧
    ∀ s : State, exec p.1 s =
      .fault (raise (.illegalOpcode s.pc (p.2.setWidth 16)) { s with pc := s.pc + 1 })) ∧
  (∀ i : Instr, i.wellFormed = false → ∃ b ∈ [0xD3#8, 0xDB#8, 0xDD#8, 0xE3#8, 0xE4#8, 0xEB#8, 0xEC#8, 0xED#8,
    0xF4#8, 0xFC#8, 0xFD#8], encode i = [b])

/-! ## The host surface -/

/-- R342 to R348: the three checks in their order, the variant of each type code, the RAM size, and the core's reset
state. The order, the sizes for a short image and for RAMONLY, and the literal of code 5 are decisions D44, D21, D19
and D45 of the spec. -/
def Obligations.CartridgeLoadChecksAndBuilds : Prop :=
  (∀ (cfg : Config) (image : List Byte),
    (image.length < 0x148 → loadCartridge cfg image = .error .tooShort) ∧
    (0x148 ≤ image.length → (image.drop 0x104).take 48 ≠ cfg.logo →
      loadCartridge cfg image = .error .logoMismatch) ∧
    (0x148 ≤ image.length → (image.drop 0x104).take 48 = cfg.logo →
      let code := (image.getD 0x147 0).toNat
      let size := ramSizeOfCode cfg (image.getD 0x149 0)
      let core := fun (c : Controller) (n : Nat) => State.initial cfg
        { rom := Memory.ofBytes image, romSize := image.length, ramSize := n, ctrl := c
          cram := Memory.ofBytes (cfg.ramInit.cram.take n) }
      (code = 0 → loadCartridge cfg image = .ok (core .none size)) ∧
      (1 ≤ code ∧ code ≤ 3 → loadCartridge cfg image = .ok (core (.combo ComboRegs.reset) size)) ∧
      (code = 5 ∨ code = 6 →
        loadCartridge cfg image = .ok (core (.ramonly RamonlyRegs.reset) cfg.mbc2RamSize)) ∧
      (code = 4 ∨ 7 ≤ code → loadCartridge cfg image = .error (.unsupportedType (image.getD 0x147 0))))) ∧
  (∀ (bytes : List Byte) (o : Nat), Memory.read (Memory.ofBytes bytes) o = bytes.getD o 0x00) ∧
  (∀ (n : Nat) (bytes : List Byte) (o : Nat), o < n →
    Memory.read (Memory.ofBytes (bytes.take n)) o = bytes.getD o 0x00) ∧
  (∀ code : Byte, ramSizeOfCode defaultConfig code =
    if code.toNat = 2 then 0x2000 else if code.toNat = 3 then 0x8000 else if code.toNat = 4 then 0x20000
    else if code.toNat = 5 then 0x4000 else 0)

/-- R351, R352: the host's setters, each with everything it leaves; push and pop, in and out of the window; and the save
and restore of cartridge RAM. F's mask in the setters is decision D43, the check of push and pop D52, a short save D22.
That each acts in any status, also on an ended machine, is the model's reading (log entry 20). -/
def Obligations.HostAccessBetweenSteps : Prop :=
  (∀ (v : Byte) (s : State),
    hostSetReg .a v s = { s with a := v } ∧ hostSetReg .b v s = { s with b := v } ∧
    hostSetReg .c v s = { s with c := v } ∧ hostSetReg .d v s = { s with d := v } ∧
    hostSetReg .e v s = { s with e := v } ∧ hostSetReg .h v s = { s with h := v } ∧
    hostSetReg .l v s = { s with l := v } ∧
    hostSetF v s = { s with f := BitVec.ofNat 8 (v.toNat / 16 * 16) }) ∧
  (∀ (v : Word) (s : State),
    let hi := BitVec.ofNat 8 (v.toNat / 256)
    let lo := BitVec.ofNat 8 v.toNat
    hostSetPC v s = { s with pc := v } ∧ hostSetPair .sp v s = { s with sp := v } ∧
    hostSetPair .bc v s = { s with b := hi, c := lo } ∧ hostSetPair .de v s = { s with d := hi, e := lo } ∧
    hostSetPair .hl v s = { s with h := hi, l := lo } ∧
    hostSetAF v s = { s with a := hi, f := BitVec.ofNat 8 (v.toNat % 256 / 16 * 16) } ∧
    (∀ p : Pair, (hostSetPair p v s).pair p = v)) ∧
  (∀ (v : Word) (s : State),
    (inStackWindow s.cfg (s.sp - 2) = true → wordAccessible (s.sp - 2) = true →
      hostPush v s = .ok () { busStore (s.sp - 1) (BitVec.ofNat 8 (v.toNat / 256))
        (busStore (s.sp - 2) (BitVec.ofNat 8 v.toNat) s) with sp := s.sp - 2 }) ∧
    (inStackWindow s.cfg (s.sp - 2) = false →
      hostPush v s = .fault (raise (.stackFault (s.sp - 2)) { s with sp := s.sp - 2 }))) ∧
  (∀ s : State,
    let lo := busValue s.sp s
    let hi := busValue (s.sp + 1) (busAfterRead s.sp s)
    (inStackWindow s.cfg (s.sp + 2) = true → wordAccessible s.sp = true →
      hostPop s = .ok (BitVec.ofNat 16 (lo.toNat + 256 * hi.toNat))
        { busAfterRead (s.sp + 1) (busAfterRead s.sp s) with sp := s.sp + 2 }) ∧
    (inStackWindow s.cfg (s.sp + 2) = false →
      hostPop s = .fault (raise (.stackFault (s.sp + 2)) { s with sp := s.sp + 2 }))) ∧
  (∀ (v : Word) (s t : State) (u : Unit), s.Inv → s.cfg.stackLo = 0xFF80 → s.cfg.stackHi = 0xFFFE →
    inStackWindow s.cfg s.sp = true → hostPush v s = .ok u t →
    t.status = s.status ∧ t.timer = s.timer ∧ hostPop t = .ok v { t with sp := s.sp }) ∧
  (∀ s : State, (ramBytes s).length = s.cart.ramSize ∧
    (∀ o, o < s.cart.ramSize → (ramBytes s).getD o 0 = Memory.read s.cart.cram o) ∧ flush s = (ramBytes s, s)) ∧
  (∀ (bs : List Byte) (s : State),
    loadRam bs s = { s with cart := { s.cart with cram := (loadRam bs s).cart.cram } }) ∧
  (∀ (bs : List Byte) (s : State), s.Inv → (loadRam bs s).Inv ∧
    (∀ o, o < bs.length → o < s.cart.ramSize → Memory.read (loadRam bs s).cart.cram o = bs.getD o 0) ∧
    (∀ o, bs.length ≤ o ∨ s.cart.ramSize ≤ o →
      Memory.read (loadRam bs s).cart.cram o = Memory.read s.cart.cram o))
end

