-- ==== Sys2Proof/Laws/Memory.lean ====
section
/-! SUPPORT. The byte array: reading after writing, and that every operation keeps the canonical form and the size. -/

namespace Sys2Proof.Machine.Memory

@[simp] theorem read_nil (i : Nat) : read [] i = unlisted := rfl

theorem read_cons (k : Nat) (w : Byte) (rest : Memory) (i : Nat) :
    read ((k, w) :: rest) i = if i = k then w else read rest i := rfl

theorem wf_iff (m : Memory) :
    wf m = true ↔ m.Pairwise (fun x y => x.1 < y.1) ∧ ∀ x ∈ m, x.2 ≠ unlisted := by
  simp [wf]

theorem wf_nil : wf [] = true := rfl

theorem wf_tail {x : Host.Cell} {m : Memory} (h : wf (x :: m) = true) : wf m = true := by
  rw [wf_iff] at h ⊢
  exact ⟨(List.pairwise_cons.mp h.1).2, fun y hy => h.2 y (List.mem_cons_of_mem _ hy)⟩

theorem wf_head_lt {x : Host.Cell} {m : Memory} (h : wf (x :: m) = true) : ∀ y ∈ m, x.1 < y.1 :=
  (List.pairwise_cons.mp ((wf_iff _).mp h).1).1

/-- An index that is not listed reads as the unlisted byte. -/
theorem read_absent {m : Memory} {i : Nat} (h : ∀ x ∈ m, x.1 ≠ i) : read m i = unlisted := by
  induction m with
  | nil => rfl
  | cons x rest ih =>
    obtain ⟨k, w⟩ := x
    have hk : i ≠ k := fun e => h (k, w) (by simp) e.symm
    rw [read_cons, if_neg hk]
    exact ih fun y hy => h y (by simp [hy])

theorem read_consCell_same {m : Memory} {i : Nat} (v : Byte) (h : ∀ x ∈ m, i < x.1) :
    read (consCell i v m) i = v := by
  unfold consCell
  split
  · rename_i hv
    rw [hv]
    exact read_absent fun x hx => by have := h x hx; omega
  · rw [read_cons, if_pos rfl]

theorem read_consCell_other {m : Memory} {i j : Nat} (v : Byte) (h : j ≠ i) :
    read (consCell i v m) j = read m j := by
  unfold consCell
  split
  · rfl
  · rw [read_cons, if_neg h]

/-- Reading where one has written. -/
theorem read_write_same {m : Memory} (h : wf m = true) (i : Nat) (v : Byte) : read (write m i v) i = v := by
  induction m with
  | nil => exact read_consCell_same v (by simp)
  | cons x rest ih =>
    obtain ⟨k, w⟩ := x
    have hlt := wf_head_lt h
    simp only [write]
    split
    · rename_i hik
      refine read_consCell_same v fun y hy => ?_
      rcases List.mem_cons.mp hy with rfl | hy
      · exact hik
      · exact Nat.lt_trans hik (hlt y hy)
    · split
      · rename_i hik
        subst hik
        exact read_consCell_same v fun y hy => hlt y hy
      · rename_i hne
        rw [read_cons, if_neg hne]
        exact ih (wf_tail h)

/-- Reading elsewhere. -/
theorem read_write_other (m : Memory) {i j : Nat} (v : Byte) (h : j ≠ i) : read (write m i v) j = read m j := by
  induction m with
  | nil => exact read_consCell_other v h
  | cons x rest ih =>
    obtain ⟨k, w⟩ := x
    simp only [write]
    split
    · exact read_consCell_other v h
    · split
      · rename_i hik
        subst hik
        rw [read_consCell_other v h, read_cons, if_neg h]
      · rw [read_cons, read_cons, ih]

theorem mem_consCell {m : Memory} {i : Nat} {v : Byte} {x : Host.Cell} (h : x ∈ consCell i v m) :
    x = (i, v) ∨ x ∈ m := by
  unfold consCell at h
  split at h
  · exact .inr h
  · exact List.mem_cons.mp h

theorem mem_write {m : Memory} {i : Nat} {v : Byte} {x : Host.Cell} (h : x ∈ write m i v) : x = (i, v) ∨ x ∈ m := by
  induction m with
  | nil => exact mem_consCell h
  | cons y rest ih =>
    obtain ⟨k, w⟩ := y
    simp only [write] at h
    split at h
    · exact mem_consCell h
    · split at h
      · rcases mem_consCell h with h | h
        · exact .inl h
        · exact .inr (List.mem_cons_of_mem _ h)
      · rcases List.mem_cons.mp h with h | h
        · exact .inr (by rw [h]; exact List.mem_cons_self)
        · rcases ih h with h | h
          · exact .inl h
          · exact .inr (List.mem_cons_of_mem _ h)

theorem wf_consCell {m : Memory} {i : Nat} (v : Byte) (h : wf m = true) (hlt : ∀ x ∈ m, i < x.1) :
    wf (consCell i v m) = true := by
  unfold consCell
  split
  · exact h
  · rename_i hv
    rw [wf_iff] at h ⊢
    refine ⟨List.pairwise_cons.mpr ⟨hlt, h.1⟩, fun x hx => ?_⟩
    rcases List.mem_cons.mp hx with rfl | hx
    · exact hv
    · exact h.2 x hx

/-- A write keeps the canonical form. -/
theorem wf_write {m : Memory} (h : wf m = true) (i : Nat) (v : Byte) : wf (write m i v) = true := by
  induction m with
  | nil => exact wf_consCell v h (by simp)
  | cons x rest ih =>
    obtain ⟨k, w⟩ := x
    have hlt := wf_head_lt h
    simp only [write]
    split
    · rename_i hik
      refine wf_consCell v h fun y hy => ?_
      rcases List.mem_cons.mp hy with rfl | hy
      · exact hik
      · exact Nat.lt_trans hik (hlt y hy)
    · split
      · rename_i hik
        subst hik
        exact wf_consCell v (wf_tail h) hlt
      · rename_i hnlt hne
        have hih := ih (wf_tail h)
        rw [wf_iff] at h hih ⊢
        refine ⟨List.pairwise_cons.mpr ⟨fun y hy => ?_, hih.1⟩, fun y hy => ?_⟩
        · rcases mem_write hy with rfl | hy
          · show k < i
            omega
          · exact hlt y hy
        · rcases List.mem_cons.mp hy with rfl | hy
          · exact h.2 _ List.mem_cons_self
          · exact hih.2 y hy

theorem below_iff (n : Nat) (m : Memory) : below n m = true ↔ ∀ x ∈ m, x.1 < n := by
  simp [below]

/-- A write inside the size keeps every listed index inside it. -/
theorem below_write {n : Nat} {m : Memory} (h : below n m = true) {i : Nat} (v : Byte) (hi : i < n) :
    below n (write m i v) = true := by
  rw [below_iff] at h ⊢
  intro x hx
  rcases mem_write hx with rfl | hx
  · exact hi
  · exact h x hx

/-- Equal bytes at every index make equal canonical arrays. -/
theorem ext_of_wf {m n : Memory} (hm : wf m = true) (hn : wf n = true) (h : ∀ i, read m i = read n i) : m = n := by
  induction m generalizing n with
  | nil =>
    cases n with
    | nil => rfl
    | cons y rest =>
      obtain ⟨k, w⟩ := y
      have := h k
      rw [read_nil, read_cons, if_pos rfl] at this
      exact absurd this.symm (((wf_iff _).mp hn).2 (k, w) List.mem_cons_self)
  | cons x rest ih =>
    obtain ⟨k, w⟩ := x
    have hw := ((wf_iff _).mp hm).2 (k, w) List.mem_cons_self
    have hlt := wf_head_lt hm
    cases n with
    | nil =>
      have := h k
      rw [read_nil, read_cons, if_pos rfl] at this
      exact absurd this hw
    | cons y rest' =>
      obtain ⟨k', w'⟩ := y
      have hw' := ((wf_iff _).mp hn).2 (k', w') List.mem_cons_self
      have hlt' := wf_head_lt hn
      have hk : k = k' := by
        rcases Nat.lt_trichotomy k k' with hc | hc | hc
        · have := h k
          rw [read_cons, if_pos rfl, read_cons, if_neg (by omega),
            read_absent fun z hz => by have := hlt' z hz; simp at this; omega] at this
          exact absurd this hw
        · exact hc
        · have := h k'
          rw [read_cons, if_neg (by omega), read_cons, if_pos rfl,
            read_absent fun z hz => by have := hlt z hz; simp at this; omega] at this
          exact absurd this.symm hw'
      subst hk
      have hww : w = w' := by simpa [read_cons] using h k
      subst hww
      refine congrArg _ (ih (wf_tail hm) (wf_tail hn) fun i => ?_)
      by_cases hi : i = k
      · subst hi
        rw [read_absent fun z hz => by have := hlt z hz; simp at this; omega,
          read_absent fun z hz => by have := hlt' z hz; simp at this; omega]
      · simpa [read_cons, hi] using h i

theorem mem_ofBytesAt {bs : List Byte} {i : Nat} {x : Host.Cell} (h : x ∈ ofBytesAt i bs) :
    i ≤ x.1 ∧ x.1 < i + bs.length := by
  induction bs generalizing i with
  | nil => simp [ofBytesAt] at h
  | cons v rest ih =>
    simp only [ofBytesAt] at h
    rcases mem_consCell h with rfl | h
    · simp
    · have := ih h
      simp only [List.length_cons]
      omega

theorem wf_ofBytesAt (bs : List Byte) (i : Nat) : wf (ofBytesAt i bs) = true := by
  induction bs generalizing i with
  | nil => rfl
  | cons v rest ih => exact wf_consCell v (ih (i + 1)) fun x hx => by have := (mem_ofBytesAt hx).1; omega

theorem read_ofBytesAt (bs : List Byte) (i j : Nat) :
    read (ofBytesAt i bs) (i + j) = bs.getD j unlisted := by
  induction bs generalizing i j with
  | nil => simp [ofBytesAt]
  | cons v rest ih =>
    simp only [ofBytesAt]
    cases j with
    | zero => exact read_consCell_same v fun x hx => by have := (mem_ofBytesAt hx).1; omega
    | succ j =>
      rw [read_consCell_other v (by omega), show i + (j + 1) = i + 1 + j by omega, ih]
      rfl

/-- The array of a byte sequence is canonical, inside its length, and holds the bytes in order. -/
theorem wf_ofBytes (bs : List Byte) : wf (ofBytes bs) = true := wf_ofBytesAt bs 0

theorem below_ofBytes (bs : List Byte) : below bs.length (ofBytes bs) = true := by
  rw [below_iff]
  intro x hx
  have := (mem_ofBytesAt hx).2
  omega

theorem read_ofBytes (bs : List Byte) (j : Nat) : read (ofBytes bs) j = bs.getD j unlisted := by
  have := read_ofBytesAt bs 0 j
  rwa [Nat.zero_add] at this

theorem below_mono {m n : Nat} (h : m ≤ n) {a : Memory} (ha : below m a = true) : below n a = true := by
  rw [below_iff] at ha ⊢
  exact fun x hx => Nat.lt_of_lt_of_le (ha x hx) h

/-- The array that the first n of some bytes are lies below n. -/
theorem below_ofBytes_take (n : Nat) (bs : List Byte) : below n (ofBytes (bs.take n)) = true :=
  below_mono (List.length_take_le n bs) (below_ofBytes (bs.take n))

/-- Reading it: the byte inside n, the unlisted byte beyond it or past the end of the bytes. -/
theorem read_ofBytes_take (n : Nat) (bs : List Byte) (i : Nat) :
    read (ofBytes (bs.take n)) i = if i < n then bs.getD i unlisted else unlisted := by
  rw [read_ofBytes]
  split
  · rename_i h
    rw [List.getD_eq_getElem?_getD, List.getD_eq_getElem?_getD, List.getElem?_take_of_lt h]
  · rename_i h
    rw [List.getD_eq_getElem?_getD, List.getElem?_take_eq_none (Nat.le_of_not_lt h)]
    rfl

theorem wf_writeBytes {m : Memory} (h : wf m = true) (i : Nat) (bs : List Byte) : wf (writeBytes m i bs) = true := by
  induction bs generalizing m i with
  | nil => exact h
  | cons v rest ih => exact ih (wf_write h i v) (i + 1)

theorem below_writeBytes {n : Nat} {m : Memory} (h : below n m = true) (i : Nat) (bs : List Byte)
    (hi : i + bs.length ≤ n) : below n (writeBytes m i bs) = true := by
  induction bs generalizing m i with
  | nil => exact h
  | cons v rest ih =>
    simp only [List.length_cons] at hi
    exact ih (below_write h v (by omega)) (i + 1) (by omega)

theorem read_writeBytes {m : Memory} (h : wf m = true) (i : Nat) (bs : List Byte) (j : Nat) :
    read (writeBytes m i bs) j = if i ≤ j ∧ j < i + bs.length then bs.getD (j - i) unlisted else read m j := by
  induction bs generalizing m i with
  | nil =>
    rw [if_neg (by simp only [List.length_nil]; omega)]
    rfl
  | cons v rest ih =>
    simp only [writeBytes, List.length_cons]
    rw [ih (wf_write h i v)]
    by_cases hj : j = i
    · subst hj
      rw [if_neg (by omega), if_pos (by omega), read_write_same h, Nat.sub_self]
      rfl
    · rw [read_write_other m v hj]
      by_cases hr : i + 1 ≤ j ∧ j < i + 1 + rest.length
      · rw [if_pos hr, if_pos (by omega), show j - i = (j - (i + 1)) + 1 by omega]
        rfl
      · rw [if_neg hr, if_neg (by omega)]

end Sys2Proof.Machine.Memory
end

