-- ==== Sys2Proof/Laws/State.lean ====
section
/-! SUPPORT. One lemma for each field and each named update of State, so that no later proof unfolds a record update. -/

namespace Sys2Proof.Machine

/-! ## `State.fetched` -/

@[simp] theorem State.fetched_a (n : Word) (s : State) : (s.fetched n).a = s.a := rfl
@[simp] theorem State.fetched_b (n : Word) (s : State) : (s.fetched n).b = s.b := rfl
@[simp] theorem State.fetched_c (n : Word) (s : State) : (s.fetched n).c = s.c := rfl
@[simp] theorem State.fetched_d (n : Word) (s : State) : (s.fetched n).d = s.d := rfl
@[simp] theorem State.fetched_e (n : Word) (s : State) : (s.fetched n).e = s.e := rfl
@[simp] theorem State.fetched_h (n : Word) (s : State) : (s.fetched n).h = s.h := rfl
@[simp] theorem State.fetched_l (n : Word) (s : State) : (s.fetched n).l = s.l := rfl
@[simp] theorem State.fetched_f (n : Word) (s : State) : (s.fetched n).f = s.f := rfl
@[simp] theorem State.fetched_sp (n : Word) (s : State) : (s.fetched n).sp = s.sp := rfl
@[simp] theorem State.fetched_pc (n : Word) (s : State) : (s.fetched n).pc = s.pc + n := rfl
@[simp] theorem State.fetched_ime (n : Word) (s : State) : (s.fetched n).ime = s.ime := rfl
@[simp] theorem State.fetched_status (n : Word) (s : State) : (s.fetched n).status = s.status := rfl
@[simp] theorem State.fetched_wram (n : Word) (s : State) : (s.fetched n).wram = s.wram := rfl
@[simp] theorem State.fetched_hram (n : Word) (s : State) : (s.fetched n).hram = s.hram := rfl
@[simp] theorem State.fetched_ie (n : Word) (s : State) : (s.fetched n).ie = s.ie := rfl
@[simp] theorem State.fetched_cart (n : Word) (s : State) : (s.fetched n).cart = s.cart := rfl
@[simp] theorem State.fetched_timer (n : Word) (s : State) : (s.fetched n).timer = s.timer := rfl
@[simp] theorem State.fetched_extWrites (n : Word) (s : State) : (s.fetched n).extWrites = s.extWrites := rfl
@[simp] theorem State.fetched_extReads (n : Word) (s : State) : (s.fetched n).extReads = s.extReads := rfl
@[simp] theorem State.fetched_elapsed (n : Word) (s : State) : (s.fetched n).elapsed = s.elapsed := rfl
@[simp] theorem State.fetched_cfg (n : Word) (s : State) : (s.fetched n).cfg = s.cfg := rfl

/-! ## `State.retired` -/

@[simp] theorem State.retired_a (p : Word) (k : Nat) (s : State) : (s.retired p k).a = s.a := rfl
@[simp] theorem State.retired_b (p : Word) (k : Nat) (s : State) : (s.retired p k).b = s.b := rfl
@[simp] theorem State.retired_c (p : Word) (k : Nat) (s : State) : (s.retired p k).c = s.c := rfl
@[simp] theorem State.retired_d (p : Word) (k : Nat) (s : State) : (s.retired p k).d = s.d := rfl
@[simp] theorem State.retired_e (p : Word) (k : Nat) (s : State) : (s.retired p k).e = s.e := rfl
@[simp] theorem State.retired_h (p : Word) (k : Nat) (s : State) : (s.retired p k).h = s.h := rfl
@[simp] theorem State.retired_l (p : Word) (k : Nat) (s : State) : (s.retired p k).l = s.l := rfl
@[simp] theorem State.retired_f (p : Word) (k : Nat) (s : State) : (s.retired p k).f = s.f := rfl
@[simp] theorem State.retired_sp (p : Word) (k : Nat) (s : State) : (s.retired p k).sp = s.sp := rfl
@[simp] theorem State.retired_pc (p : Word) (k : Nat) (s : State) : (s.retired p k).pc = p := rfl
@[simp] theorem State.retired_ime (p : Word) (k : Nat) (s : State) : (s.retired p k).ime = s.ime := rfl
@[simp] theorem State.retired_status (p : Word) (k : Nat) (s : State) : (s.retired p k).status = s.status := rfl
@[simp] theorem State.retired_wram (p : Word) (k : Nat) (s : State) : (s.retired p k).wram = s.wram := rfl
@[simp] theorem State.retired_hram (p : Word) (k : Nat) (s : State) : (s.retired p k).hram = s.hram := rfl
@[simp] theorem State.retired_ie (p : Word) (k : Nat) (s : State) : (s.retired p k).ie = s.ie := rfl
@[simp] theorem State.retired_cart (p : Word) (k : Nat) (s : State) : (s.retired p k).cart = s.cart := rfl
@[simp] theorem State.retired_timer (p : Word) (k : Nat) (s : State) : (s.retired p k).timer = s.timer.tick k := rfl
@[simp] theorem State.retired_extWrites (p : Word) (k : Nat) (s : State) : (s.retired p k).extWrites = s.extWrites := rfl
@[simp] theorem State.retired_extReads (p : Word) (k : Nat) (s : State) : (s.retired p k).extReads = s.extReads := rfl
@[simp] theorem State.retired_elapsed (p : Word) (k : Nat) (s : State) : (s.retired p k).elapsed = s.elapsed + k := rfl
@[simp] theorem State.retired_cfg (p : Word) (k : Nat) (s : State) : (s.retired p k).cfg = s.cfg := rfl

/-! ## `State.setFlags` -/

@[simp] theorem State.setFlags_a (z n hf cf : Bool) (s : State) : (s.setFlags z n hf cf).a = s.a := rfl
@[simp] theorem State.setFlags_b (z n hf cf : Bool) (s : State) : (s.setFlags z n hf cf).b = s.b := rfl
@[simp] theorem State.setFlags_c (z n hf cf : Bool) (s : State) : (s.setFlags z n hf cf).c = s.c := rfl
@[simp] theorem State.setFlags_d (z n hf cf : Bool) (s : State) : (s.setFlags z n hf cf).d = s.d := rfl
@[simp] theorem State.setFlags_e (z n hf cf : Bool) (s : State) : (s.setFlags z n hf cf).e = s.e := rfl
@[simp] theorem State.setFlags_h (z n hf cf : Bool) (s : State) : (s.setFlags z n hf cf).h = s.h := rfl
@[simp] theorem State.setFlags_l (z n hf cf : Bool) (s : State) : (s.setFlags z n hf cf).l = s.l := rfl
@[simp] theorem State.setFlags_f (z n hf cf : Bool) (s : State) : (s.setFlags z n hf cf).f = packFlags z n hf cf := rfl
@[simp] theorem State.setFlags_sp (z n hf cf : Bool) (s : State) : (s.setFlags z n hf cf).sp = s.sp := rfl
@[simp] theorem State.setFlags_pc (z n hf cf : Bool) (s : State) : (s.setFlags z n hf cf).pc = s.pc := rfl
@[simp] theorem State.setFlags_ime (z n hf cf : Bool) (s : State) : (s.setFlags z n hf cf).ime = s.ime := rfl
@[simp] theorem State.setFlags_status (z n hf cf : Bool) (s : State) : (s.setFlags z n hf cf).status = s.status := rfl
@[simp] theorem State.setFlags_wram (z n hf cf : Bool) (s : State) : (s.setFlags z n hf cf).wram = s.wram := rfl
@[simp] theorem State.setFlags_hram (z n hf cf : Bool) (s : State) : (s.setFlags z n hf cf).hram = s.hram := rfl
@[simp] theorem State.setFlags_ie (z n hf cf : Bool) (s : State) : (s.setFlags z n hf cf).ie = s.ie := rfl
@[simp] theorem State.setFlags_cart (z n hf cf : Bool) (s : State) : (s.setFlags z n hf cf).cart = s.cart := rfl
@[simp] theorem State.setFlags_timer (z n hf cf : Bool) (s : State) : (s.setFlags z n hf cf).timer = s.timer := rfl
@[simp] theorem State.setFlags_extWrites (z n hf cf : Bool) (s : State) : (s.setFlags z n hf cf).extWrites = s.extWrites := rfl
@[simp] theorem State.setFlags_extReads (z n hf cf : Bool) (s : State) : (s.setFlags z n hf cf).extReads = s.extReads := rfl
@[simp] theorem State.setFlags_elapsed (z n hf cf : Bool) (s : State) : (s.setFlags z n hf cf).elapsed = s.elapsed := rfl
@[simp] theorem State.setFlags_cfg (z n hf cf : Bool) (s : State) : (s.setFlags z n hf cf).cfg = s.cfg := rfl

/-! ## `State.setReg` -/

@[simp] theorem State.setReg_f (r : Reg8) (v : Byte) (s : State) : (s.setReg r v).f = s.f := by cases r <;> rfl
@[simp] theorem State.setReg_sp (r : Reg8) (v : Byte) (s : State) : (s.setReg r v).sp = s.sp := by cases r <;> rfl
@[simp] theorem State.setReg_pc (r : Reg8) (v : Byte) (s : State) : (s.setReg r v).pc = s.pc := by cases r <;> rfl
@[simp] theorem State.setReg_ime (r : Reg8) (v : Byte) (s : State) : (s.setReg r v).ime = s.ime := by cases r <;> rfl
@[simp] theorem State.setReg_status (r : Reg8) (v : Byte) (s : State) : (s.setReg r v).status = s.status := by cases r <;> rfl
@[simp] theorem State.setReg_wram (r : Reg8) (v : Byte) (s : State) : (s.setReg r v).wram = s.wram := by cases r <;> rfl
@[simp] theorem State.setReg_hram (r : Reg8) (v : Byte) (s : State) : (s.setReg r v).hram = s.hram := by cases r <;> rfl
@[simp] theorem State.setReg_ie (r : Reg8) (v : Byte) (s : State) : (s.setReg r v).ie = s.ie := by cases r <;> rfl
@[simp] theorem State.setReg_cart (r : Reg8) (v : Byte) (s : State) : (s.setReg r v).cart = s.cart := by cases r <;> rfl
@[simp] theorem State.setReg_timer (r : Reg8) (v : Byte) (s : State) : (s.setReg r v).timer = s.timer := by cases r <;> rfl
@[simp] theorem State.setReg_extWrites (r : Reg8) (v : Byte) (s : State) : (s.setReg r v).extWrites = s.extWrites := by cases r <;> rfl
@[simp] theorem State.setReg_extReads (r : Reg8) (v : Byte) (s : State) : (s.setReg r v).extReads = s.extReads := by cases r <;> rfl
@[simp] theorem State.setReg_elapsed (r : Reg8) (v : Byte) (s : State) : (s.setReg r v).elapsed = s.elapsed := by cases r <;> rfl
@[simp] theorem State.setReg_cfg (r : Reg8) (v : Byte) (s : State) : (s.setReg r v).cfg = s.cfg := by cases r <;> rfl

/-! ## `State.setBC` -/

@[simp] theorem State.setBC_a (v : Word) (s : State) : (s.setBC v).a = s.a := rfl
@[simp] theorem State.setBC_b (v : Word) (s : State) : (s.setBC v).b = hiByte v := rfl
@[simp] theorem State.setBC_c (v : Word) (s : State) : (s.setBC v).c = loByte v := rfl
@[simp] theorem State.setBC_d (v : Word) (s : State) : (s.setBC v).d = s.d := rfl
@[simp] theorem State.setBC_e (v : Word) (s : State) : (s.setBC v).e = s.e := rfl
@[simp] theorem State.setBC_h (v : Word) (s : State) : (s.setBC v).h = s.h := rfl
@[simp] theorem State.setBC_l (v : Word) (s : State) : (s.setBC v).l = s.l := rfl
@[simp] theorem State.setBC_f (v : Word) (s : State) : (s.setBC v).f = s.f := rfl
@[simp] theorem State.setBC_sp (v : Word) (s : State) : (s.setBC v).sp = s.sp := rfl
@[simp] theorem State.setBC_pc (v : Word) (s : State) : (s.setBC v).pc = s.pc := rfl
@[simp] theorem State.setBC_ime (v : Word) (s : State) : (s.setBC v).ime = s.ime := rfl
@[simp] theorem State.setBC_status (v : Word) (s : State) : (s.setBC v).status = s.status := rfl
@[simp] theorem State.setBC_wram (v : Word) (s : State) : (s.setBC v).wram = s.wram := rfl
@[simp] theorem State.setBC_hram (v : Word) (s : State) : (s.setBC v).hram = s.hram := rfl
@[simp] theorem State.setBC_ie (v : Word) (s : State) : (s.setBC v).ie = s.ie := rfl
@[simp] theorem State.setBC_cart (v : Word) (s : State) : (s.setBC v).cart = s.cart := rfl
@[simp] theorem State.setBC_timer (v : Word) (s : State) : (s.setBC v).timer = s.timer := rfl
@[simp] theorem State.setBC_extWrites (v : Word) (s : State) : (s.setBC v).extWrites = s.extWrites := rfl
@[simp] theorem State.setBC_extReads (v : Word) (s : State) : (s.setBC v).extReads = s.extReads := rfl
@[simp] theorem State.setBC_elapsed (v : Word) (s : State) : (s.setBC v).elapsed = s.elapsed := rfl
@[simp] theorem State.setBC_cfg (v : Word) (s : State) : (s.setBC v).cfg = s.cfg := rfl

/-! ## `State.setDE` -/

@[simp] theorem State.setDE_a (v : Word) (s : State) : (s.setDE v).a = s.a := rfl
@[simp] theorem State.setDE_b (v : Word) (s : State) : (s.setDE v).b = s.b := rfl
@[simp] theorem State.setDE_c (v : Word) (s : State) : (s.setDE v).c = s.c := rfl
@[simp] theorem State.setDE_d (v : Word) (s : State) : (s.setDE v).d = hiByte v := rfl
@[simp] theorem State.setDE_e (v : Word) (s : State) : (s.setDE v).e = loByte v := rfl
@[simp] theorem State.setDE_h (v : Word) (s : State) : (s.setDE v).h = s.h := rfl
@[simp] theorem State.setDE_l (v : Word) (s : State) : (s.setDE v).l = s.l := rfl
@[simp] theorem State.setDE_f (v : Word) (s : State) : (s.setDE v).f = s.f := rfl
@[simp] theorem State.setDE_sp (v : Word) (s : State) : (s.setDE v).sp = s.sp := rfl
@[simp] theorem State.setDE_pc (v : Word) (s : State) : (s.setDE v).pc = s.pc := rfl
@[simp] theorem State.setDE_ime (v : Word) (s : State) : (s.setDE v).ime = s.ime := rfl
@[simp] theorem State.setDE_status (v : Word) (s : State) : (s.setDE v).status = s.status := rfl
@[simp] theorem State.setDE_wram (v : Word) (s : State) : (s.setDE v).wram = s.wram := rfl
@[simp] theorem State.setDE_hram (v : Word) (s : State) : (s.setDE v).hram = s.hram := rfl
@[simp] theorem State.setDE_ie (v : Word) (s : State) : (s.setDE v).ie = s.ie := rfl
@[simp] theorem State.setDE_cart (v : Word) (s : State) : (s.setDE v).cart = s.cart := rfl
@[simp] theorem State.setDE_timer (v : Word) (s : State) : (s.setDE v).timer = s.timer := rfl
@[simp] theorem State.setDE_extWrites (v : Word) (s : State) : (s.setDE v).extWrites = s.extWrites := rfl
@[simp] theorem State.setDE_extReads (v : Word) (s : State) : (s.setDE v).extReads = s.extReads := rfl
@[simp] theorem State.setDE_elapsed (v : Word) (s : State) : (s.setDE v).elapsed = s.elapsed := rfl
@[simp] theorem State.setDE_cfg (v : Word) (s : State) : (s.setDE v).cfg = s.cfg := rfl

/-! ## `State.setHL` -/

@[simp] theorem State.setHL_a (v : Word) (s : State) : (s.setHL v).a = s.a := rfl
@[simp] theorem State.setHL_b (v : Word) (s : State) : (s.setHL v).b = s.b := rfl
@[simp] theorem State.setHL_c (v : Word) (s : State) : (s.setHL v).c = s.c := rfl
@[simp] theorem State.setHL_d (v : Word) (s : State) : (s.setHL v).d = s.d := rfl
@[simp] theorem State.setHL_e (v : Word) (s : State) : (s.setHL v).e = s.e := rfl
@[simp] theorem State.setHL_h (v : Word) (s : State) : (s.setHL v).h = hiByte v := rfl
@[simp] theorem State.setHL_l (v : Word) (s : State) : (s.setHL v).l = loByte v := rfl
@[simp] theorem State.setHL_f (v : Word) (s : State) : (s.setHL v).f = s.f := rfl
@[simp] theorem State.setHL_sp (v : Word) (s : State) : (s.setHL v).sp = s.sp := rfl
@[simp] theorem State.setHL_pc (v : Word) (s : State) : (s.setHL v).pc = s.pc := rfl
@[simp] theorem State.setHL_ime (v : Word) (s : State) : (s.setHL v).ime = s.ime := rfl
@[simp] theorem State.setHL_status (v : Word) (s : State) : (s.setHL v).status = s.status := rfl
@[simp] theorem State.setHL_wram (v : Word) (s : State) : (s.setHL v).wram = s.wram := rfl
@[simp] theorem State.setHL_hram (v : Word) (s : State) : (s.setHL v).hram = s.hram := rfl
@[simp] theorem State.setHL_ie (v : Word) (s : State) : (s.setHL v).ie = s.ie := rfl
@[simp] theorem State.setHL_cart (v : Word) (s : State) : (s.setHL v).cart = s.cart := rfl
@[simp] theorem State.setHL_timer (v : Word) (s : State) : (s.setHL v).timer = s.timer := rfl
@[simp] theorem State.setHL_extWrites (v : Word) (s : State) : (s.setHL v).extWrites = s.extWrites := rfl
@[simp] theorem State.setHL_extReads (v : Word) (s : State) : (s.setHL v).extReads = s.extReads := rfl
@[simp] theorem State.setHL_elapsed (v : Word) (s : State) : (s.setHL v).elapsed = s.elapsed := rfl
@[simp] theorem State.setHL_cfg (v : Word) (s : State) : (s.setHL v).cfg = s.cfg := rfl

/-! ## `State.setSP` -/

@[simp] theorem State.setSP_a (v : Word) (s : State) : (s.setSP v).a = s.a := rfl
@[simp] theorem State.setSP_b (v : Word) (s : State) : (s.setSP v).b = s.b := rfl
@[simp] theorem State.setSP_c (v : Word) (s : State) : (s.setSP v).c = s.c := rfl
@[simp] theorem State.setSP_d (v : Word) (s : State) : (s.setSP v).d = s.d := rfl
@[simp] theorem State.setSP_e (v : Word) (s : State) : (s.setSP v).e = s.e := rfl
@[simp] theorem State.setSP_h (v : Word) (s : State) : (s.setSP v).h = s.h := rfl
@[simp] theorem State.setSP_l (v : Word) (s : State) : (s.setSP v).l = s.l := rfl
@[simp] theorem State.setSP_f (v : Word) (s : State) : (s.setSP v).f = s.f := rfl
@[simp] theorem State.setSP_sp (v : Word) (s : State) : (s.setSP v).sp = v := rfl
@[simp] theorem State.setSP_pc (v : Word) (s : State) : (s.setSP v).pc = s.pc := rfl
@[simp] theorem State.setSP_ime (v : Word) (s : State) : (s.setSP v).ime = s.ime := rfl
@[simp] theorem State.setSP_status (v : Word) (s : State) : (s.setSP v).status = s.status := rfl
@[simp] theorem State.setSP_wram (v : Word) (s : State) : (s.setSP v).wram = s.wram := rfl
@[simp] theorem State.setSP_hram (v : Word) (s : State) : (s.setSP v).hram = s.hram := rfl
@[simp] theorem State.setSP_ie (v : Word) (s : State) : (s.setSP v).ie = s.ie := rfl
@[simp] theorem State.setSP_cart (v : Word) (s : State) : (s.setSP v).cart = s.cart := rfl
@[simp] theorem State.setSP_timer (v : Word) (s : State) : (s.setSP v).timer = s.timer := rfl
@[simp] theorem State.setSP_extWrites (v : Word) (s : State) : (s.setSP v).extWrites = s.extWrites := rfl
@[simp] theorem State.setSP_extReads (v : Word) (s : State) : (s.setSP v).extReads = s.extReads := rfl
@[simp] theorem State.setSP_elapsed (v : Word) (s : State) : (s.setSP v).elapsed = s.elapsed := rfl
@[simp] theorem State.setSP_cfg (v : Word) (s : State) : (s.setSP v).cfg = s.cfg := rfl

/-! ## `State.setAF` -/

@[simp] theorem State.setAF_a (v : Word) (s : State) : (s.setAF v).a = hiByte v := rfl
@[simp] theorem State.setAF_b (v : Word) (s : State) : (s.setAF v).b = s.b := rfl
@[simp] theorem State.setAF_c (v : Word) (s : State) : (s.setAF v).c = s.c := rfl
@[simp] theorem State.setAF_d (v : Word) (s : State) : (s.setAF v).d = s.d := rfl
@[simp] theorem State.setAF_e (v : Word) (s : State) : (s.setAF v).e = s.e := rfl
@[simp] theorem State.setAF_h (v : Word) (s : State) : (s.setAF v).h = s.h := rfl
@[simp] theorem State.setAF_l (v : Word) (s : State) : (s.setAF v).l = s.l := rfl
@[simp] theorem State.setAF_f (v : Word) (s : State) : (s.setAF v).f = loByte v &&& 0xF0#8 := rfl
@[simp] theorem State.setAF_sp (v : Word) (s : State) : (s.setAF v).sp = s.sp := rfl
@[simp] theorem State.setAF_pc (v : Word) (s : State) : (s.setAF v).pc = s.pc := rfl
@[simp] theorem State.setAF_ime (v : Word) (s : State) : (s.setAF v).ime = s.ime := rfl
@[simp] theorem State.setAF_status (v : Word) (s : State) : (s.setAF v).status = s.status := rfl
@[simp] theorem State.setAF_wram (v : Word) (s : State) : (s.setAF v).wram = s.wram := rfl
@[simp] theorem State.setAF_hram (v : Word) (s : State) : (s.setAF v).hram = s.hram := rfl
@[simp] theorem State.setAF_ie (v : Word) (s : State) : (s.setAF v).ie = s.ie := rfl
@[simp] theorem State.setAF_cart (v : Word) (s : State) : (s.setAF v).cart = s.cart := rfl
@[simp] theorem State.setAF_timer (v : Word) (s : State) : (s.setAF v).timer = s.timer := rfl
@[simp] theorem State.setAF_extWrites (v : Word) (s : State) : (s.setAF v).extWrites = s.extWrites := rfl
@[simp] theorem State.setAF_extReads (v : Word) (s : State) : (s.setAF v).extReads = s.extReads := rfl
@[simp] theorem State.setAF_elapsed (v : Word) (s : State) : (s.setAF v).elapsed = s.elapsed := rfl
@[simp] theorem State.setAF_cfg (v : Word) (s : State) : (s.setAF v).cfg = s.cfg := rfl

/-! ## `State.writeF` -/

@[simp] theorem State.writeF_a (v : Byte) (s : State) : (s.writeF v).a = s.a := rfl
@[simp] theorem State.writeF_b (v : Byte) (s : State) : (s.writeF v).b = s.b := rfl
@[simp] theorem State.writeF_c (v : Byte) (s : State) : (s.writeF v).c = s.c := rfl
@[simp] theorem State.writeF_d (v : Byte) (s : State) : (s.writeF v).d = s.d := rfl
@[simp] theorem State.writeF_e (v : Byte) (s : State) : (s.writeF v).e = s.e := rfl
@[simp] theorem State.writeF_h (v : Byte) (s : State) : (s.writeF v).h = s.h := rfl
@[simp] theorem State.writeF_l (v : Byte) (s : State) : (s.writeF v).l = s.l := rfl
@[simp] theorem State.writeF_f (v : Byte) (s : State) : (s.writeF v).f = v &&& 0xF0#8 := rfl
@[simp] theorem State.writeF_sp (v : Byte) (s : State) : (s.writeF v).sp = s.sp := rfl
@[simp] theorem State.writeF_pc (v : Byte) (s : State) : (s.writeF v).pc = s.pc := rfl
@[simp] theorem State.writeF_ime (v : Byte) (s : State) : (s.writeF v).ime = s.ime := rfl
@[simp] theorem State.writeF_status (v : Byte) (s : State) : (s.writeF v).status = s.status := rfl
@[simp] theorem State.writeF_wram (v : Byte) (s : State) : (s.writeF v).wram = s.wram := rfl
@[simp] theorem State.writeF_hram (v : Byte) (s : State) : (s.writeF v).hram = s.hram := rfl
@[simp] theorem State.writeF_ie (v : Byte) (s : State) : (s.writeF v).ie = s.ie := rfl
@[simp] theorem State.writeF_cart (v : Byte) (s : State) : (s.writeF v).cart = s.cart := rfl
@[simp] theorem State.writeF_timer (v : Byte) (s : State) : (s.writeF v).timer = s.timer := rfl
@[simp] theorem State.writeF_extWrites (v : Byte) (s : State) : (s.writeF v).extWrites = s.extWrites := rfl
@[simp] theorem State.writeF_extReads (v : Byte) (s : State) : (s.writeF v).extReads = s.extReads := rfl
@[simp] theorem State.writeF_elapsed (v : Byte) (s : State) : (s.writeF v).elapsed = s.elapsed := rfl
@[simp] theorem State.writeF_cfg (v : Byte) (s : State) : (s.writeF v).cfg = s.cfg := rfl

/-! ## `State.setPair` -/

@[simp] theorem State.setPair_f (p : Pair) (v : Word) (s : State) : (s.setPair p v).f = s.f := by cases p <;> rfl
@[simp] theorem State.setPair_pc (p : Pair) (v : Word) (s : State) : (s.setPair p v).pc = s.pc := by cases p <;> rfl
@[simp] theorem State.setPair_ime (p : Pair) (v : Word) (s : State) : (s.setPair p v).ime = s.ime := by cases p <;> rfl
@[simp] theorem State.setPair_status (p : Pair) (v : Word) (s : State) : (s.setPair p v).status = s.status := by cases p <;> rfl
@[simp] theorem State.setPair_wram (p : Pair) (v : Word) (s : State) : (s.setPair p v).wram = s.wram := by cases p <;> rfl
@[simp] theorem State.setPair_hram (p : Pair) (v : Word) (s : State) : (s.setPair p v).hram = s.hram := by cases p <;> rfl
@[simp] theorem State.setPair_ie (p : Pair) (v : Word) (s : State) : (s.setPair p v).ie = s.ie := by cases p <;> rfl
@[simp] theorem State.setPair_cart (p : Pair) (v : Word) (s : State) : (s.setPair p v).cart = s.cart := by cases p <;> rfl
@[simp] theorem State.setPair_timer (p : Pair) (v : Word) (s : State) : (s.setPair p v).timer = s.timer := by cases p <;> rfl
@[simp] theorem State.setPair_extWrites (p : Pair) (v : Word) (s : State) : (s.setPair p v).extWrites = s.extWrites := by cases p <;> rfl
@[simp] theorem State.setPair_extReads (p : Pair) (v : Word) (s : State) : (s.setPair p v).extReads = s.extReads := by cases p <;> rfl
@[simp] theorem State.setPair_elapsed (p : Pair) (v : Word) (s : State) : (s.setPair p v).elapsed = s.elapsed := by cases p <;> rfl
@[simp] theorem State.setPair_cfg (p : Pair) (v : Word) (s : State) : (s.setPair p v).cfg = s.cfg := by cases p <;> rfl

/-! ## `State.setStackPair` -/

@[simp] theorem State.setStackPair_sp (p : StackPair) (v : Word) (s : State) : (s.setStackPair p v).sp = s.sp := by cases p <;> rfl
@[simp] theorem State.setStackPair_pc (p : StackPair) (v : Word) (s : State) : (s.setStackPair p v).pc = s.pc := by cases p <;> rfl
@[simp] theorem State.setStackPair_ime (p : StackPair) (v : Word) (s : State) : (s.setStackPair p v).ime = s.ime := by cases p <;> rfl
@[simp] theorem State.setStackPair_status (p : StackPair) (v : Word) (s : State) : (s.setStackPair p v).status = s.status := by cases p <;> rfl
@[simp] theorem State.setStackPair_wram (p : StackPair) (v : Word) (s : State) : (s.setStackPair p v).wram = s.wram := by cases p <;> rfl
@[simp] theorem State.setStackPair_hram (p : StackPair) (v : Word) (s : State) : (s.setStackPair p v).hram = s.hram := by cases p <;> rfl
@[simp] theorem State.setStackPair_ie (p : StackPair) (v : Word) (s : State) : (s.setStackPair p v).ie = s.ie := by cases p <;> rfl
@[simp] theorem State.setStackPair_cart (p : StackPair) (v : Word) (s : State) : (s.setStackPair p v).cart = s.cart := by cases p <;> rfl
@[simp] theorem State.setStackPair_timer (p : StackPair) (v : Word) (s : State) : (s.setStackPair p v).timer = s.timer := by cases p <;> rfl
@[simp] theorem State.setStackPair_extWrites (p : StackPair) (v : Word) (s : State) : (s.setStackPair p v).extWrites = s.extWrites := by cases p <;> rfl
@[simp] theorem State.setStackPair_extReads (p : StackPair) (v : Word) (s : State) : (s.setStackPair p v).extReads = s.extReads := by cases p <;> rfl
@[simp] theorem State.setStackPair_elapsed (p : StackPair) (v : Word) (s : State) : (s.setStackPair p v).elapsed = s.elapsed := by cases p <;> rfl
@[simp] theorem State.setStackPair_cfg (p : StackPair) (v : Word) (s : State) : (s.setStackPair p v).cfg = s.cfg := by cases p <;> rfl

/-! ## `busAfterRead` -/

@[simp] theorem busAfterRead_a (addr : Word) (s : State) : (busAfterRead addr s).a = s.a := by unfold busAfterRead; split <;> rfl
@[simp] theorem busAfterRead_b (addr : Word) (s : State) : (busAfterRead addr s).b = s.b := by unfold busAfterRead; split <;> rfl
@[simp] theorem busAfterRead_c (addr : Word) (s : State) : (busAfterRead addr s).c = s.c := by unfold busAfterRead; split <;> rfl
@[simp] theorem busAfterRead_d (addr : Word) (s : State) : (busAfterRead addr s).d = s.d := by unfold busAfterRead; split <;> rfl
@[simp] theorem busAfterRead_e (addr : Word) (s : State) : (busAfterRead addr s).e = s.e := by unfold busAfterRead; split <;> rfl
@[simp] theorem busAfterRead_h (addr : Word) (s : State) : (busAfterRead addr s).h = s.h := by unfold busAfterRead; split <;> rfl
@[simp] theorem busAfterRead_l (addr : Word) (s : State) : (busAfterRead addr s).l = s.l := by unfold busAfterRead; split <;> rfl
@[simp] theorem busAfterRead_f (addr : Word) (s : State) : (busAfterRead addr s).f = s.f := by unfold busAfterRead; split <;> rfl
@[simp] theorem busAfterRead_sp (addr : Word) (s : State) : (busAfterRead addr s).sp = s.sp := by unfold busAfterRead; split <;> rfl
@[simp] theorem busAfterRead_pc (addr : Word) (s : State) : (busAfterRead addr s).pc = s.pc := by unfold busAfterRead; split <;> rfl
@[simp] theorem busAfterRead_ime (addr : Word) (s : State) : (busAfterRead addr s).ime = s.ime := by unfold busAfterRead; split <;> rfl
@[simp] theorem busAfterRead_status (addr : Word) (s : State) : (busAfterRead addr s).status = s.status := by unfold busAfterRead; split <;> rfl
@[simp] theorem busAfterRead_wram (addr : Word) (s : State) : (busAfterRead addr s).wram = s.wram := by unfold busAfterRead; split <;> rfl
@[simp] theorem busAfterRead_hram (addr : Word) (s : State) : (busAfterRead addr s).hram = s.hram := by unfold busAfterRead; split <;> rfl
@[simp] theorem busAfterRead_ie (addr : Word) (s : State) : (busAfterRead addr s).ie = s.ie := by unfold busAfterRead; split <;> rfl
@[simp] theorem busAfterRead_cart (addr : Word) (s : State) : (busAfterRead addr s).cart = s.cart := by unfold busAfterRead; split <;> rfl
@[simp] theorem busAfterRead_timer (addr : Word) (s : State) : (busAfterRead addr s).timer = s.timer := by unfold busAfterRead; split <;> rfl
@[simp] theorem busAfterRead_extWrites (addr : Word) (s : State) : (busAfterRead addr s).extWrites = s.extWrites := by unfold busAfterRead; split <;> rfl
@[simp] theorem busAfterRead_elapsed (addr : Word) (s : State) : (busAfterRead addr s).elapsed = s.elapsed := by unfold busAfterRead; split <;> rfl
@[simp] theorem busAfterRead_cfg (addr : Word) (s : State) : (busAfterRead addr s).cfg = s.cfg := by unfold busAfterRead; split <;> rfl

/-! ## `aluA` -/

@[simp] theorem aluA_b (op : AluOp) (v : Byte) (s : State) : (aluA op v s).b = s.b := by cases op <;> rfl
@[simp] theorem aluA_c (op : AluOp) (v : Byte) (s : State) : (aluA op v s).c = s.c := by cases op <;> rfl
@[simp] theorem aluA_d (op : AluOp) (v : Byte) (s : State) : (aluA op v s).d = s.d := by cases op <;> rfl
@[simp] theorem aluA_e (op : AluOp) (v : Byte) (s : State) : (aluA op v s).e = s.e := by cases op <;> rfl
@[simp] theorem aluA_h (op : AluOp) (v : Byte) (s : State) : (aluA op v s).h = s.h := by cases op <;> rfl
@[simp] theorem aluA_l (op : AluOp) (v : Byte) (s : State) : (aluA op v s).l = s.l := by cases op <;> rfl
@[simp] theorem aluA_sp (op : AluOp) (v : Byte) (s : State) : (aluA op v s).sp = s.sp := by cases op <;> rfl
@[simp] theorem aluA_pc (op : AluOp) (v : Byte) (s : State) : (aluA op v s).pc = s.pc := by cases op <;> rfl
@[simp] theorem aluA_ime (op : AluOp) (v : Byte) (s : State) : (aluA op v s).ime = s.ime := by cases op <;> rfl
@[simp] theorem aluA_status (op : AluOp) (v : Byte) (s : State) : (aluA op v s).status = s.status := by cases op <;> rfl
@[simp] theorem aluA_wram (op : AluOp) (v : Byte) (s : State) : (aluA op v s).wram = s.wram := by cases op <;> rfl
@[simp] theorem aluA_hram (op : AluOp) (v : Byte) (s : State) : (aluA op v s).hram = s.hram := by cases op <;> rfl
@[simp] theorem aluA_ie (op : AluOp) (v : Byte) (s : State) : (aluA op v s).ie = s.ie := by cases op <;> rfl
@[simp] theorem aluA_cart (op : AluOp) (v : Byte) (s : State) : (aluA op v s).cart = s.cart := by cases op <;> rfl
@[simp] theorem aluA_timer (op : AluOp) (v : Byte) (s : State) : (aluA op v s).timer = s.timer := by cases op <;> rfl
@[simp] theorem aluA_extWrites (op : AluOp) (v : Byte) (s : State) : (aluA op v s).extWrites = s.extWrites := by cases op <;> rfl
@[simp] theorem aluA_extReads (op : AluOp) (v : Byte) (s : State) : (aluA op v s).extReads = s.extReads := by cases op <;> rfl
@[simp] theorem aluA_elapsed (op : AluOp) (v : Byte) (s : State) : (aluA op v s).elapsed = s.elapsed := by cases op <;> rfl
@[simp] theorem aluA_cfg (op : AluOp) (v : Byte) (s : State) : (aluA op v s).cfg = s.cfg := by cases op <;> rfl

/-! ## `State.setIncFlags` -/

@[simp] theorem State.setIncFlags_a (v : Byte) (s : State) : (s.setIncFlags v).a = s.a := rfl
@[simp] theorem State.setIncFlags_b (v : Byte) (s : State) : (s.setIncFlags v).b = s.b := rfl
@[simp] theorem State.setIncFlags_c (v : Byte) (s : State) : (s.setIncFlags v).c = s.c := rfl
@[simp] theorem State.setIncFlags_d (v : Byte) (s : State) : (s.setIncFlags v).d = s.d := rfl
@[simp] theorem State.setIncFlags_e (v : Byte) (s : State) : (s.setIncFlags v).e = s.e := rfl
@[simp] theorem State.setIncFlags_h (v : Byte) (s : State) : (s.setIncFlags v).h = s.h := rfl
@[simp] theorem State.setIncFlags_l (v : Byte) (s : State) : (s.setIncFlags v).l = s.l := rfl
@[simp] theorem State.setIncFlags_sp (v : Byte) (s : State) : (s.setIncFlags v).sp = s.sp := rfl
@[simp] theorem State.setIncFlags_pc (v : Byte) (s : State) : (s.setIncFlags v).pc = s.pc := rfl
@[simp] theorem State.setIncFlags_ime (v : Byte) (s : State) : (s.setIncFlags v).ime = s.ime := rfl
@[simp] theorem State.setIncFlags_status (v : Byte) (s : State) : (s.setIncFlags v).status = s.status := rfl
@[simp] theorem State.setIncFlags_wram (v : Byte) (s : State) : (s.setIncFlags v).wram = s.wram := rfl
@[simp] theorem State.setIncFlags_hram (v : Byte) (s : State) : (s.setIncFlags v).hram = s.hram := rfl
@[simp] theorem State.setIncFlags_ie (v : Byte) (s : State) : (s.setIncFlags v).ie = s.ie := rfl
@[simp] theorem State.setIncFlags_cart (v : Byte) (s : State) : (s.setIncFlags v).cart = s.cart := rfl
@[simp] theorem State.setIncFlags_timer (v : Byte) (s : State) : (s.setIncFlags v).timer = s.timer := rfl
@[simp] theorem State.setIncFlags_extWrites (v : Byte) (s : State) : (s.setIncFlags v).extWrites = s.extWrites := rfl
@[simp] theorem State.setIncFlags_extReads (v : Byte) (s : State) : (s.setIncFlags v).extReads = s.extReads := rfl
@[simp] theorem State.setIncFlags_elapsed (v : Byte) (s : State) : (s.setIncFlags v).elapsed = s.elapsed := rfl
@[simp] theorem State.setIncFlags_cfg (v : Byte) (s : State) : (s.setIncFlags v).cfg = s.cfg := rfl

/-! ## `State.setDecFlags` -/

@[simp] theorem State.setDecFlags_a (v : Byte) (s : State) : (s.setDecFlags v).a = s.a := rfl
@[simp] theorem State.setDecFlags_b (v : Byte) (s : State) : (s.setDecFlags v).b = s.b := rfl
@[simp] theorem State.setDecFlags_c (v : Byte) (s : State) : (s.setDecFlags v).c = s.c := rfl
@[simp] theorem State.setDecFlags_d (v : Byte) (s : State) : (s.setDecFlags v).d = s.d := rfl
@[simp] theorem State.setDecFlags_e (v : Byte) (s : State) : (s.setDecFlags v).e = s.e := rfl
@[simp] theorem State.setDecFlags_h (v : Byte) (s : State) : (s.setDecFlags v).h = s.h := rfl
@[simp] theorem State.setDecFlags_l (v : Byte) (s : State) : (s.setDecFlags v).l = s.l := rfl
@[simp] theorem State.setDecFlags_sp (v : Byte) (s : State) : (s.setDecFlags v).sp = s.sp := rfl
@[simp] theorem State.setDecFlags_pc (v : Byte) (s : State) : (s.setDecFlags v).pc = s.pc := rfl
@[simp] theorem State.setDecFlags_ime (v : Byte) (s : State) : (s.setDecFlags v).ime = s.ime := rfl
@[simp] theorem State.setDecFlags_status (v : Byte) (s : State) : (s.setDecFlags v).status = s.status := rfl
@[simp] theorem State.setDecFlags_wram (v : Byte) (s : State) : (s.setDecFlags v).wram = s.wram := rfl
@[simp] theorem State.setDecFlags_hram (v : Byte) (s : State) : (s.setDecFlags v).hram = s.hram := rfl
@[simp] theorem State.setDecFlags_ie (v : Byte) (s : State) : (s.setDecFlags v).ie = s.ie := rfl
@[simp] theorem State.setDecFlags_cart (v : Byte) (s : State) : (s.setDecFlags v).cart = s.cart := rfl
@[simp] theorem State.setDecFlags_timer (v : Byte) (s : State) : (s.setDecFlags v).timer = s.timer := rfl
@[simp] theorem State.setDecFlags_extWrites (v : Byte) (s : State) : (s.setDecFlags v).extWrites = s.extWrites := rfl
@[simp] theorem State.setDecFlags_extReads (v : Byte) (s : State) : (s.setDecFlags v).extReads = s.extReads := rfl
@[simp] theorem State.setDecFlags_elapsed (v : Byte) (s : State) : (s.setDecFlags v).elapsed = s.elapsed := rfl
@[simp] theorem State.setDecFlags_cfg (v : Byte) (s : State) : (s.setDecFlags v).cfg = s.cfg := rfl

/-! ## Registers -/

/-- Reading a register after writing one (spec/10_state.md R20): the seven are independent. -/
theorem State.reg_setReg (r q : Reg8) (v : Byte) (s : State) :
    (s.setReg r v).reg q = if q = r then v else s.reg q := by
  cases r <;> cases q <;> rfl

@[simp] theorem State.reg_setReg_same (r : Reg8) (v : Byte) (s : State) : (s.setReg r v).reg r = v := by
  cases r <;> rfl

@[simp] theorem State.reg_setFlags (q : Reg8) (z n hf cf : Bool) (s : State) :
    (s.setFlags z n hf cf).reg q = s.reg q := by
  cases q <;> rfl

@[simp] theorem State.reg_fetched (q : Reg8) (n : Word) (s : State) : (s.fetched n).reg q = s.reg q := by
  cases q <;> rfl

@[simp] theorem State.reg_retired (q : Reg8) (p : Word) (k : Nat) (s : State) :
    (s.retired p k).reg q = s.reg q := by
  cases q <;> rfl

@[simp] theorem State.reg_setSP (q : Reg8) (v : Word) (s : State) : (s.setSP v).reg q = s.reg q := by
  cases q <;> rfl

@[simp] theorem State.reg_busAfterRead (q : Reg8) (addr : Word) (s : State) :
    (busAfterRead addr s).reg q = s.reg q := by
  cases q <;> simp [State.reg]

@[simp] theorem State.hl_fetched (n : Word) (s : State) : (s.fetched n).hl = s.hl := rfl

@[simp] theorem State.stackPair_fetched (p : StackPair) (n : Word) (s : State) :
    (s.fetched n).stackPair p = s.stackPair p := by
  cases p <;> rfl

/-- A pair reads back what was written to it (R21). -/
theorem joinBytes_hiByte_loByte (v : Word) : joinBytes (hiByte v) (loByte v) = v := by
  apply BitVec.eq_of_getLsbD_eq
  intro i hi
  simp only [joinBytes, hiByte, loByte, BitVec.getLsbD_append, BitVec.getLsbD_extractLsb']
  split
  · simp_all
  · rename_i hge
    have : 8 + (i - 8) = i := by omega
    have hlt : i - 8 < 8 := by omega
    simp [this, hlt]

theorem hiByte_joinBytes (x y : Byte) : hiByte (joinBytes x y) = x := by
  apply BitVec.eq_of_getLsbD_eq
  intro i hi
  rw [hiByte, joinBytes, BitVec.getLsbD_extractLsb', BitVec.getLsbD_append]
  simp [hi]

theorem loByte_joinBytes (x y : Byte) : loByte (joinBytes x y) = y := by
  apply BitVec.eq_of_getLsbD_eq
  intro i hi
  rw [loByte, joinBytes, BitVec.getLsbD_extractLsb', BitVec.getLsbD_append]
  simp [hi]

/-! ## Bytes and words as numbers (spec/00_scope.md R9) -/

theorem hiByte_eq_ofNat (v : Word) : hiByte v = BitVec.ofNat 8 (v.toNat / 256) := by
  apply BitVec.eq_of_toNat_eq
  simp [hiByte, BitVec.extractLsb'_toNat, Nat.shiftRight_eq_div_pow]

theorem loByte_eq_ofNat (v : Word) : loByte v = BitVec.ofNat 8 v.toNat := by
  apply BitVec.eq_of_toNat_eq
  simp [loByte, BitVec.extractLsb'_toNat]

theorem toNat_joinBytes (hi lo : Byte) : (joinBytes hi lo).toNat = hi.toNat * 256 + lo.toNat := by
  unfold joinBytes
  rw [BitVec.toNat_append, ← Nat.shiftLeft_add_eq_or_of_lt (by have := lo.isLt; simpa using this),
    Nat.shiftLeft_eq]

/-- A bit of a byte as arithmetic. -/
theorem getLsbD_eq_div_mod {w : Nat} (v : BitVec w) (k : Nat) :
    v.getLsbD k = decide (v.toNat / 2 ^ k % 2 = 1) := by
  rw [BitVec.getLsbD, Nat.testBit_eq_decide_div_mod_eq]

/-! ## Flags -/

/-- The packing of the flags (R23). -/
theorem packFlags_low (z n h c : Bool) : packFlags z n h c &&& 0x0F#8 = 0x00#8 := by
  cases z <;> cases n <;> cases h <;> cases c <;> rfl

@[simp] theorem packFlags_bit7 (z n h c : Bool) : (packFlags z n h c)[7] = z := by
  cases z <;> cases n <;> cases h <;> cases c <;> rfl

@[simp] theorem packFlags_bit6 (z n h c : Bool) : (packFlags z n h c)[6] = n := by
  cases z <;> cases n <;> cases h <;> cases c <;> rfl

@[simp] theorem packFlags_bit5 (z n h c : Bool) : (packFlags z n h c)[5] = h := by
  cases z <;> cases n <;> cases h <;> cases c <;> rfl

@[simp] theorem packFlags_bit4 (z n h c : Bool) : (packFlags z n h c)[4] = c := by
  cases z <;> cases n <;> cases h <;> cases c <;> rfl

@[simp] theorem State.flagZ_setFlags (z n hf cf : Bool) (s : State) : (s.setFlags z n hf cf).flagZ = z := by
  simp [State.flagZ]

@[simp] theorem State.flagN_setFlags (z n hf cf : Bool) (s : State) : (s.setFlags z n hf cf).flagN = n := by
  simp [State.flagN]

@[simp] theorem State.flagH_setFlags (z n hf cf : Bool) (s : State) : (s.setFlags z n hf cf).flagH = hf := by
  simp [State.flagH]

@[simp] theorem State.flagC_setFlags (z n hf cf : Bool) (s : State) : (s.setFlags z n hf cf).flagC = cf := by
  simp [State.flagC]

/-- Every byte written to F has a low nibble of 0 (R23). -/
theorem maskF_low (v : Byte) : v &&& 0xF0#8 &&& 0x0F#8 = 0x00#8 := by
  rw [BitVec.and_assoc, show (0xF0#8 &&& 0x0F#8 : Byte) = 0x00#8 from rfl, BitVec.and_zero]

end Sys2Proof.Machine
end

