-- ==== Sys2Proof/Laws/Ops.lean ====
section
/-! SUPPORT. What each shared operation can do, said once: faults, the Bus, the stack, the timer, the bank controllers. -/

namespace Sys2Proof.Machine

/-! ## Faults -/

@[simp] theorem raise_info (i : FaultInfo) (s : State) : (raise i s).info = i := by
  cases i <;> rfl

@[simp] theorem raise_final (i : FaultInfo) (s : State) : (raise i s).final = { s with status := .faulted i } := by
  cases i <;> rfl

/-! ## One byte -/

theorem readByte_ok {addr : Word} (h : prohibited addr = false) (s : State) :
    readByte addr s = .ok (busValue addr s) (busAfterRead addr s) := by
  rw [readByte, h]
  rfl

theorem readByte_fault {addr : Word} (h : prohibited addr = true) (s : State) :
    readByte addr s = .fault (raise (.prohibitedAccess addr .read) s) := by
  rw [readByte, h]
  rfl

theorem writeByte_ok {addr : Word} (h : prohibited addr = false) (v : Byte) (s : State) :
    writeByte addr v s = .ok () (busStore addr v s) := by
  rw [writeByte, h]
  rfl

theorem writeByte_fault {addr : Word} (h : prohibited addr = true) (v : Byte) (s : State) :
    writeByte addr v s = .fault (raise (.prohibitedAccess addr .write) s) := by
  rw [writeByte, h]
  rfl

@[simp] theorem Res.andThen_ok {α : Type} (x : α) (s : State) (k : α → State → Out) :
    (Res.ok x s).andThen k = k x s := rfl

@[simp] theorem Res.andThen_fault {α : Type} (e : Fault) (k : α → State → Out) :
    (Res.fault e : Res α).andThen k = .fault e := rfl

@[simp] theorem Res.bind_ok {α β : Type} (x : α) (s : State) (k : α → State → Res β) :
    (Res.ok x s).bind k = k x s := rfl

@[simp] theorem Res.bind_fault {α β : Type} (e : Fault) (k : α → State → Res β) :
    (Res.fault e : Res α).bind k = .fault e := rfl

/-- A sequence that ends in a next state went on after its first operation. -/
theorem Res.andThen_next {α : Type} {r : Res α} {k : α → State → Out} {t : State} (h : r.andThen k = .next t) :
    ∃ x s, r = .ok x s ∧ k x s = .next t := by
  cases r with
  | ok x s => exact ⟨x, s, rfl, h⟩
  | fault e => cases h

theorem readByte_eq_ok {addr : Word} {s t : State} {v : Byte} (h : readByte addr s = .ok v t) :
    prohibited addr = false ∧ v = busValue addr s ∧ t = busAfterRead addr s := by
  cases hp : prohibited addr
  · rw [readByte_ok hp] at h
    cases h
    exact ⟨rfl, rfl, rfl⟩
  · rw [readByte_fault hp] at h
    cases h

theorem writeByte_eq_ok {addr : Word} {s t : State} {v : Byte} {u : Unit} (h : writeByte addr v s = .ok u t) :
    prohibited addr = false ∧ t = busStore addr v s := by
  cases hp : prohibited addr
  · rw [writeByte_ok hp] at h
    cases h
    exact ⟨rfl, rfl⟩
  · rw [writeByte_fault hp] at h
    cases h

/-! ## What a Bus write leaves alone -/

@[simp] theorem busStore_a (addr : Word) (v : Byte) (s : State) : (busStore addr v s).a = s.a := by
  unfold busStore; split <;> rfl

@[simp] theorem busStore_b (addr : Word) (v : Byte) (s : State) : (busStore addr v s).b = s.b := by
  unfold busStore; split <;> rfl

@[simp] theorem busStore_c (addr : Word) (v : Byte) (s : State) : (busStore addr v s).c = s.c := by
  unfold busStore; split <;> rfl

@[simp] theorem busStore_d (addr : Word) (v : Byte) (s : State) : (busStore addr v s).d = s.d := by
  unfold busStore; split <;> rfl

@[simp] theorem busStore_e (addr : Word) (v : Byte) (s : State) : (busStore addr v s).e = s.e := by
  unfold busStore; split <;> rfl

@[simp] theorem busStore_h (addr : Word) (v : Byte) (s : State) : (busStore addr v s).h = s.h := by
  unfold busStore; split <;> rfl

@[simp] theorem busStore_l (addr : Word) (v : Byte) (s : State) : (busStore addr v s).l = s.l := by
  unfold busStore; split <;> rfl

@[simp] theorem busStore_f (addr : Word) (v : Byte) (s : State) : (busStore addr v s).f = s.f := by
  unfold busStore; split <;> rfl

@[simp] theorem busStore_sp (addr : Word) (v : Byte) (s : State) : (busStore addr v s).sp = s.sp := by
  unfold busStore; split <;> rfl

@[simp] theorem busStore_pc (addr : Word) (v : Byte) (s : State) : (busStore addr v s).pc = s.pc := by
  unfold busStore; split <;> rfl

@[simp] theorem busStore_ime (addr : Word) (v : Byte) (s : State) : (busStore addr v s).ime = s.ime := by
  unfold busStore; split <;> rfl

@[simp] theorem busStore_status (addr : Word) (v : Byte) (s : State) : (busStore addr v s).status = s.status := by
  unfold busStore; split <;> rfl

@[simp] theorem busStore_extReads (addr : Word) (v : Byte) (s : State) : (busStore addr v s).extReads = s.extReads := by
  unfold busStore; split <;> rfl

@[simp] theorem busStore_elapsed (addr : Word) (v : Byte) (s : State) : (busStore addr v s).elapsed = s.elapsed := by
  unfold busStore; split <;> rfl

@[simp] theorem busStore_cfg (addr : Word) (v : Byte) (s : State) : (busStore addr v s).cfg = s.cfg := by
  unfold busStore; split <;> rfl

@[simp] theorem reg_busStore (r : Reg8) (addr : Word) (v : Byte) (s : State) :
    (busStore addr v s).reg r = s.reg r := by
  cases r <;> simp [State.reg]

/-! ## The Bus does not look at PC or SP -/

@[simp] theorem busValue_fetched (addr : Word) (n : Word) (s : State) :
    busValue addr (s.fetched n) = busValue addr s := rfl

@[simp] theorem busValue_setSP (addr v : Word) (s : State) : busValue addr (s.setSP v) = busValue addr s := rfl

theorem busAfterRead_fetched (addr : Word) (n : Word) (s : State) :
    busAfterRead addr (s.fetched n) = (busAfterRead addr s).fetched n := by
  unfold busAfterRead
  split <;> rfl

theorem busAfterRead_setSP (addr v : Word) (s : State) :
    busAfterRead addr (s.setSP v) = (busAfterRead addr s).setSP v := by
  unfold busAfterRead
  split <;> rfl

theorem busStore_fetched (addr : Word) (v : Byte) (n : Word) (s : State) :
    busStore addr v (s.fetched n) = (busStore addr v s).fetched n := by
  unfold busStore
  split <;> rfl

theorem busStore_setSP (addr : Word) (v : Byte) (x : Word) (s : State) :
    busStore addr v (s.setSP x) = (busStore addr v s).setSP x := by
  unfold busStore
  split <;> rfl

/-! ## The stack -/

theorem moveSP_ok {sp : Word} {s : State} (h : inStackWindow s.cfg sp = true) :
    moveSP sp s = .ok () (s.setSP sp) := by
  rw [moveSP, if_pos h]
  rfl

theorem moveSP_fault {sp : Word} {s : State} (h : inStackWindow s.cfg sp = false) :
    moveSP sp s = .fault (raise (.stackFault sp) (s.setSP sp)) := by
  rw [moveSP, if_neg (by simp [h])]
  rfl

/-- A push that succeeds: the window check passed, both bytes were accessible, the low byte was written first. -/
theorem push16_ok {v : Word} {s : State} (hw : inStackWindow s.cfg (s.sp - 2) = true)
    (ha : wordAccessible (s.sp - 2) = true) :
    push16 v s = .ok () (busStore (s.sp - 2 + 1) (hiByte v) (busStore (s.sp - 2) (loByte v) (s.setSP (s.sp - 2)))) := by
  simp only [wordAccessible, Bool.and_eq_true, Bool.not_eq_true'] at ha
  rw [push16, moveSP_ok hw, Res.bind_ok, writeWord, State.setSP_sp, writeByte_ok ha.1, Res.bind_ok, writeByte_ok ha.2]

theorem push16_window {v : Word} {s : State} (hw : inStackWindow s.cfg (s.sp - 2) = false) :
    push16 v s = .fault (raise (.stackFault (s.sp - 2)) (s.setSP (s.sp - 2))) := by
  rw [push16, moveSP_fault hw, Res.bind_fault]

theorem sub_two_add_one (x : Word) : x - 2 + 1 = x - 1 := by
  bv_omega

/-- A push whose first byte is in a prohibited region: SP stays moved, nothing is written. -/
theorem push16_low {v : Word} {s : State} (hw : inStackWindow s.cfg (s.sp - 2) = true)
    (h : prohibited (s.sp - 2) = true) :
    push16 v s = .fault (raise (.prohibitedAccess (s.sp - 2) .write) (s.setSP (s.sp - 2))) := by
  rw [push16, moveSP_ok hw, Res.bind_ok, writeWord, State.setSP_sp, writeByte_fault h, Res.bind_fault]

/-- A push whose second byte is in a prohibited region: the first byte stays written (R305). -/
theorem push16_high {v : Word} {s : State} (hw : inStackWindow s.cfg (s.sp - 2) = true)
    (h1 : prohibited (s.sp - 2) = false) (h2 : prohibited (s.sp - 1) = true) :
    push16 v s = .fault (raise (.prohibitedAccess (s.sp - 1) .write)
      (busStore (s.sp - 2) (loByte v) (s.setSP (s.sp - 2)))) := by
  rw [push16, moveSP_ok hw, Res.bind_ok, writeWord, State.setSP_sp, writeByte_ok h1, Res.bind_ok, sub_two_add_one,
    writeByte_fault h2]

theorem push16_eq_ok {v : Word} {s t : State} {u : Unit} (h : push16 v s = .ok u t) :
    inStackWindow s.cfg (s.sp - 2) = true ∧ wordAccessible (s.sp - 2) = true ∧
      t = busStore (s.sp - 2 + 1) (hiByte v) (busStore (s.sp - 2) (loByte v) (s.setSP (s.sp - 2))) := by
  cases hw : inStackWindow s.cfg (s.sp - 2)
  · rw [push16_window hw] at h
    cases h
  · rw [push16, moveSP_ok hw, Res.bind_ok, writeWord, State.setSP_sp] at h
    cases h1 : prohibited (s.sp - 2)
    · rw [writeByte_ok h1, Res.bind_ok] at h
      obtain ⟨h2, rfl⟩ := writeByte_eq_ok h
      exact ⟨rfl, by simp only [wordAccessible, Bool.and_eq_true, Bool.not_eq_true']; exact ⟨h1, h2⟩, rfl⟩
    · rw [writeByte_fault h1] at h
      cases h

/-- A pop that succeeds: the window check passed, both bytes at the old SP were accessible. -/
theorem pop16_ok {s : State} (hw : inStackWindow s.cfg (s.sp + 2) = true) (ha : wordAccessible s.sp = true) :
    pop16 s = .ok
      (joinBytes (busValue (s.sp + 1) (busAfterRead s.sp (s.setSP (s.sp + 2)))) (busValue s.sp (s.setSP (s.sp + 2))))
      (busAfterRead (s.sp + 1) (busAfterRead s.sp (s.setSP (s.sp + 2)))) := by
  simp only [wordAccessible, Bool.and_eq_true, Bool.not_eq_true'] at ha
  rw [pop16, moveSP_ok hw, Res.bind_ok, readWord, readByte_ok ha.1, Res.bind_ok, readByte_ok ha.2, Res.bind_ok]

theorem pop16_window {s : State} (hw : inStackWindow s.cfg (s.sp + 2) = false) :
    pop16 s = .fault (raise (.stackFault (s.sp + 2)) (s.setSP (s.sp + 2))) := by
  rw [pop16, moveSP_fault hw, Res.bind_fault]

/-- A pop whose first byte is in a prohibited region: SP stays moved (R305). -/
theorem pop16_low {s : State} (hw : inStackWindow s.cfg (s.sp + 2) = true) (h : prohibited s.sp = true) :
    pop16 s = .fault (raise (.prohibitedAccess s.sp .read) (s.setSP (s.sp + 2))) := by
  rw [pop16, moveSP_ok hw, Res.bind_ok, readWord, readByte_fault h, Res.bind_fault]

/-- A pop whose second byte is in a prohibited region. -/
theorem pop16_high {s : State} (hw : inStackWindow s.cfg (s.sp + 2) = true) (h1 : prohibited s.sp = false)
    (h2 : prohibited (s.sp + 1) = true) :
    pop16 s = .fault (raise (.prohibitedAccess (s.sp + 1) .read)
      (busAfterRead s.sp (s.setSP (s.sp + 2)))) := by
  rw [pop16, moveSP_ok hw, Res.bind_ok, readWord, readByte_ok h1, Res.bind_ok, readByte_fault h2, Res.bind_fault]

theorem pop16_eq_ok {s t : State} {v : Word} (h : pop16 s = .ok v t) :
    inStackWindow s.cfg (s.sp + 2) = true ∧ wordAccessible s.sp = true ∧
      t = busAfterRead (s.sp + 1) (busAfterRead s.sp (s.setSP (s.sp + 2))) := by
  cases hw : inStackWindow s.cfg (s.sp + 2)
  · rw [pop16_window hw] at h
    cases h
  · cases h1 : prohibited s.sp
    · cases h2 : prohibited (s.sp + 1)
      · have ha : wordAccessible s.sp = true := by simp only [wordAccessible, Bool.and_eq_true, Bool.not_eq_true']; exact ⟨h1, h2⟩
        rw [pop16_ok hw ha] at h
        cases h
        exact ⟨rfl, ha, rfl⟩
      · rw [pop16, moveSP_ok hw, Res.bind_ok, readWord, readByte_ok h1, Res.bind_ok, readByte_fault h2] at h
        cases h
    · rw [pop16, moveSP_ok hw, Res.bind_ok, readWord, readByte_fault h1] at h
      cases h

/-! ## The cycle table -/

/-- With the default `CYCLES` every count is the default one. -/
theorem cycleCount_default {cfg : Config} (h : cfg.cycles = []) (code : Nat) (taken : Bool) (d : Nat) :
    cycleCount cfg code taken d = d := by
  rw [cycleCount, h]
  rfl

theorem State.cycles_default {s : State} (h : s.cfg.cycles = []) (code d : Nat) : s.cycles code d = d :=
  cycleCount_default h code true d

theorem State.cyclesNotTaken_default {s : State} (h : s.cfg.cycles = []) (code d : Nat) : s.cyclesNotTaken code d = d :=
  cycleCount_default h code false d

/-! ## The timer -/

@[simp] theorem Timer.countTimes_succ (n : Nat) (t : Timer) :
    Timer.countTimes (n + 1) t = Timer.countTimes n t.countOnce := rfl

@[simp] theorem Timer.countTimes_zero (t : Timer) : Timer.countTimes 0 t = t := rfl

theorem Timer.countOnce_frame (t : Timer) : t.countOnce.div = t.div ∧ t.countOnce.tma = t.tma ∧
    t.countOnce.tac = t.tac ∧ t.countOnce.divAcc = t.divAcc ∧ t.countOnce.timaAcc = t.timaAcc ∧
    (t.irq = true → t.countOnce.irq = true) := by
  unfold Timer.countOnce
  split <;> simp

/-- Counting changes TIMA and the request bit only, and never clears the request bit (R315, R316). -/
theorem Timer.countTimes_frame (n : Nat) (t : Timer) : (Timer.countTimes n t).div = t.div ∧
    (Timer.countTimes n t).tma = t.tma ∧ (Timer.countTimes n t).tac = t.tac ∧
    (Timer.countTimes n t).divAcc = t.divAcc ∧ (Timer.countTimes n t).timaAcc = t.timaAcc ∧
    (t.irq = true → (Timer.countTimes n t).irq = true) := by
  induction n generalizing t with
  | zero => simp
  | succ n ih =>
    obtain ⟨a1, a2, a3, a4, a5, a6⟩ := ih t.countOnce
    obtain ⟨b1, b2, b3, b4, b5, b6⟩ := t.countOnce_frame
    rw [Timer.countTimes_succ]
    exact ⟨a1.trans b1, a2.trans b2, a3.trans b3, a4.trans b4, a5.trans b5, fun h => a6 (b6 h)⟩

theorem Timer.threshold_range (t : Timer) : 16 ≤ t.threshold ∧ t.threshold ≤ 1024 := by
  unfold Timer.threshold
  split <;> decide

/-- The tick keeps TMA, TAC and a set request bit, and leaves both accumulators in range. -/
theorem Timer.tick_frame (c : Nat) (t : Timer) : (t.tick c).tma = t.tma ∧ (t.tick c).tac = t.tac ∧
    (t.irq = true → (t.tick c).irq = true) ∧ (t.tick c).divAcc < 256 ∧
    (t.timaAcc < 1024 → (t.tick c).timaAcc < 1024) := by
  have hth := t.threshold_range
  have hdiv : (t.tickDiv c).divAcc < 256 := Nat.mod_lt _ (by decide)
  unfold Timer.tick Timer.tickTima
  split
  · obtain ⟨-, h2, h3, h4, h5, h6⟩ := Timer.countTimes_frame
      (((t.tickDiv c).timaAcc + c) / (t.tickDiv c).threshold)
      { t.tickDiv c with timaAcc := ((t.tickDiv c).timaAcc + c) % (t.tickDiv c).threshold }
    refine ⟨h2, h3, h6, by rw [h4]; exact hdiv, fun _ => ?_⟩
    rw [h5]
    have : ((t.tickDiv c).timaAcc + c) % (t.tickDiv c).threshold < (t.tickDiv c).threshold :=
      Nat.mod_lt _ (by have : (t.tickDiv c).threshold = t.threshold := rfl; omega)
    have : (t.tickDiv c).threshold = t.threshold := rfl
    show ((t.tickDiv c).timaAcc + c) % (t.tickDiv c).threshold < 1024
    omega
  · exact ⟨rfl, rfl, fun h => h, hdiv, fun h => h⟩

/-- A register write never touches the request bit or TIMA's accumulator, and never enlarges DIV's (R313). -/
theorem Timer.writeReg_frame (cfg : Config) (addr : Word) (v : Byte) (t : Timer) :
    (t.writeReg cfg addr v).irq = t.irq ∧ (t.writeReg cfg addr v).timaAcc = t.timaAcc ∧
      (t.writeReg cfg addr v).divAcc ≤ t.divAcc := by
  unfold Timer.writeReg
  split
  · split <;> simp
  · split
    · simp
    · split <;> simp

/-! ## Bank controllers -/

@[simp] theorem Cart.writeRom_fields (cfg : Config) (addr : Word) (v : Byte) (k : Cart) :
    (k.writeRom cfg addr v).rom = k.rom ∧ (k.writeRom cfg addr v).romSize = k.romSize ∧
      (k.writeRom cfg addr v).cram = k.cram ∧ (k.writeRom cfg addr v).ramSize = k.ramSize :=
  ⟨rfl, rfl, rfl, rfl⟩

/-- A cartridge RAM write changes cartridge RAM only. -/
theorem Cart.writeRam_fields (addr : Word) (v : Byte) (k : Cart) :
    (k.writeRam addr v).rom = k.rom ∧ (k.writeRam addr v).romSize = k.romSize ∧
      (k.writeRam addr v).ramSize = k.ramSize ∧ (k.writeRam addr v).ctrl = k.ctrl := by
  unfold Cart.writeRam Cart.cramPut
  split
  · split <;> exact ⟨rfl, rfl, rfl, rfl⟩
  · exact ⟨rfl, rfl, rfl, rfl⟩

theorem Cart.writeRam_array {k : Cart} (h : Memory.Array k.ramSize k.cram) (addr : Word) (v : Byte) :
    Memory.Array k.ramSize (k.writeRam addr v).cram := by
  unfold Cart.writeRam Cart.cramPut
  split
  · split
    · rename_i hlt
      exact ⟨Memory.wf_write h.canonical _ _, Memory.below_write h.inRange _ hlt⟩
    · exact h
  · exact h

theorem ComboRegs.selectLow_legal (v : Byte) (r : ComboRegs) :
    (r.selectLow v).romBank &&& 0x1F#7 ≠ 0x00#7 := by
  have key : ∀ lo : BitVec 5, ∀ b : BitVec 7,
      (((b &&& 0x60#7) ||| (if lo = 0#5 then 1#5 else lo).setWidth 7) &&& 0x1F#7) ≠ 0x00#7 := by decide
  exact key _ _

theorem ComboRegs.selectHigh_low (v : Byte) (r : ComboRegs) :
    (r.selectHigh v).romBank &&& 0x1F#7 = r.romBank &&& 0x1F#7 := by
  have key : ∀ x : BitVec 2, ∀ b : BitVec 7,
      (((b &&& 0x1F#7) ||| (x.setWidth 7 <<< 5)) &&& 0x1F#7) = b &&& 0x1F#7 := by decide
  unfold ComboRegs.selectHigh
  split
  · rfl
  · exact key _ _

/-- Control writes keep the bank registers legal (spec/10_state.md R33, R34). -/
theorem Controller.writeControl_legal (cfg : Config) (addr : Word) (v : Byte) {c : Controller}
    (h : c.legal = true) : (c.writeControl cfg addr v).legal = true := by
  cases c with
  | none => rfl
  | combo r =>
    have hr : r.romBank &&& 0x1F#7 ≠ 0x00#7 := by simpa [Controller.legal] using h
    suffices (r.writeControl cfg addr v).romBank &&& 0x1F#7 ≠ 0x00#7 by
      simpa [Controller.legal, Controller.writeControl] using this
    unfold ComboRegs.writeControl
    split
    · exact hr
    · split
      · exact r.selectLow_legal v
      · split
        · rw [r.selectHigh_low v]
          exact hr
        · unfold ComboRegs.writeMode
          split <;> exact hr
  | ramonly r =>
    have hr : r.romBank ≠ 0x0#4 := by simpa [Controller.legal] using h
    suffices (r.writeControl cfg addr v).romBank ≠ 0x0#4 by
      simpa [Controller.legal, Controller.writeControl] using this
    have key : ∀ b : BitVec 4, (if b = 0#4 then 1#4 else b) ≠ 0x0#4 := by decide
    unfold RamonlyRegs.writeControl
    split
    · split
      · exact key _
      · exact hr
    · exact hr

end Sys2Proof.Machine
end

