-- ==== Sys2Proof/Laws/Regions.lean ====
section
/-! SUPPORT. The rows of the dispatch table (spec/20_memory.md R51) as address ranges. -/

namespace Sys2Proof.Machine

/-- Every address belongs to exactly one row, by its range. -/
theorem regionOf_cases (a : Word) :
    (regionOf a = .rom ∧ a.toNat < 0x8000) ∨
    (regionOf a = .videoRam ∧ 0x8000 ≤ a.toNat ∧ a.toNat < 0xA000) ∨
    (regionOf a = .cartRam ∧ 0xA000 ≤ a.toNat ∧ a.toNat < 0xC000) ∨
    (regionOf a = .workRam ∧ 0xC000 ≤ a.toNat ∧ a.toNat < 0xE000) ∨
    (regionOf a = .echo ∧ 0xE000 ≤ a.toNat ∧ a.toNat < 0xFE00) ∨
    (regionOf a = .spriteAttr ∧ 0xFE00 ≤ a.toNat ∧ a.toNat < 0xFEA0) ∨
    (regionOf a = .unusable ∧ 0xFEA0 ≤ a.toNat ∧ a.toNat < 0xFF00) ∨
    (regionOf a = .ioExternal ∧ (0xFF00 ≤ a.toNat ∧ a.toNat < 0xFF04 ∨ 0xFF08 ≤ a.toNat ∧ a.toNat < 0xFF80)) ∨
    (regionOf a = .timer ∧ 0xFF04 ≤ a.toNat ∧ a.toNat < 0xFF08) ∨
    (regionOf a = .highRam ∧ 0xFF80 ≤ a.toNat ∧ a.toNat < 0xFFFF) ∨
    (regionOf a = .interruptEnable ∧ a.toNat = 0xFFFF) := by
  have := a.isLt
  unfold regionOf
  generalize a.toNat = n at *
  repeat' (first | (split; simp; omega) | split)
  simp; omega

theorem regionOf_rom {a : Word} : regionOf a = .rom ↔ a.toNat < 0x8000 := by
  rcases regionOf_cases a with h | h | h | h | h | h | h | h | h | h | h <;> rw [h.1] <;>
    simp only [reduceCtorEq, false_iff, true_iff] <;> omega

theorem regionOf_videoRam {a : Word} : regionOf a = .videoRam ↔ 0x8000 ≤ a.toNat ∧ a.toNat < 0xA000 := by
  rcases regionOf_cases a with h | h | h | h | h | h | h | h | h | h | h <;> rw [h.1] <;>
    simp only [reduceCtorEq, false_iff, true_iff] <;> omega

theorem regionOf_cartRam {a : Word} : regionOf a = .cartRam ↔ 0xA000 ≤ a.toNat ∧ a.toNat < 0xC000 := by
  rcases regionOf_cases a with h | h | h | h | h | h | h | h | h | h | h <;> rw [h.1] <;>
    simp only [reduceCtorEq, false_iff, true_iff] <;> omega

theorem regionOf_workRam {a : Word} : regionOf a = .workRam ↔ 0xC000 ≤ a.toNat ∧ a.toNat < 0xE000 := by
  rcases regionOf_cases a with h | h | h | h | h | h | h | h | h | h | h <;> rw [h.1] <;>
    simp only [reduceCtorEq, false_iff, true_iff] <;> omega

theorem regionOf_echo {a : Word} : regionOf a = .echo ↔ 0xE000 ≤ a.toNat ∧ a.toNat < 0xFE00 := by
  rcases regionOf_cases a with h | h | h | h | h | h | h | h | h | h | h <;> rw [h.1] <;>
    simp only [reduceCtorEq, false_iff, true_iff] <;> omega

theorem regionOf_spriteAttr {a : Word} : regionOf a = .spriteAttr ↔ 0xFE00 ≤ a.toNat ∧ a.toNat < 0xFEA0 := by
  rcases regionOf_cases a with h | h | h | h | h | h | h | h | h | h | h <;> rw [h.1] <;>
    simp only [reduceCtorEq, false_iff, true_iff] <;> omega

theorem regionOf_unusable {a : Word} : regionOf a = .unusable ↔ 0xFEA0 ≤ a.toNat ∧ a.toNat < 0xFF00 := by
  rcases regionOf_cases a with h | h | h | h | h | h | h | h | h | h | h <;> rw [h.1] <;>
    simp only [reduceCtorEq, false_iff, true_iff] <;> omega

theorem regionOf_ioExternal {a : Word} : regionOf a = .ioExternal ↔ 0xFF00 ≤ a.toNat ∧ a.toNat < 0xFF04 ∨ 0xFF08 ≤ a.toNat ∧ a.toNat < 0xFF80 := by
  rcases regionOf_cases a with h | h | h | h | h | h | h | h | h | h | h <;> rw [h.1] <;>
    simp only [reduceCtorEq, false_iff, true_iff] <;> omega

theorem regionOf_timer {a : Word} : regionOf a = .timer ↔ 0xFF04 ≤ a.toNat ∧ a.toNat < 0xFF08 := by
  rcases regionOf_cases a with h | h | h | h | h | h | h | h | h | h | h <;> rw [h.1] <;>
    simp only [reduceCtorEq, false_iff, true_iff] <;> omega

theorem regionOf_highRam {a : Word} : regionOf a = .highRam ↔ 0xFF80 ≤ a.toNat ∧ a.toNat < 0xFFFF := by
  rcases regionOf_cases a with h | h | h | h | h | h | h | h | h | h | h <;> rw [h.1] <;>
    simp only [reduceCtorEq, false_iff, true_iff] <;> omega

theorem regionOf_interruptEnable {a : Word} : regionOf a = .interruptEnable ↔ a.toNat = 0xFFFF := by
  rcases regionOf_cases a with h | h | h | h | h | h | h | h | h | h | h <;> rw [h.1] <;>
    simp only [reduceCtorEq, false_iff, true_iff] <;> omega

theorem prohibited_iff {a : Word} : prohibited a = true ↔
    0xE000 ≤ a.toNat ∧ a.toNat < 0xFE00 ∨ 0xFEA0 ≤ a.toNat ∧ a.toNat < 0xFF00 := by
  unfold prohibited
  rcases regionOf_cases a with h | h | h | h | h | h | h | h | h | h | h <;> rw [h.1] <;> simp <;> omega

theorem external_iff {a : Word} : external a = true ↔
    0x8000 ≤ a.toNat ∧ a.toNat < 0xA000 ∨ 0xFE00 ≤ a.toNat ∧ a.toNat < 0xFEA0 ∨
      0xFF00 ≤ a.toNat ∧ a.toNat < 0xFF04 ∨ 0xFF08 ≤ a.toNat ∧ a.toNat < 0xFF80 := by
  unfold external
  rcases regionOf_cases a with h | h | h | h | h | h | h | h | h | h | h <;> rw [h.1] <;> simp <;> omega

end Sys2Proof.Machine
end

