-- ==== Sys2Proof/Laws/Shape.lean ====
section
/-! SUPPORT. The shape of an instruction: the shared operation that its meaning is, with that operation's operands, so
that a claim about all 511 constructors is a case analysis over the shapes. -/

namespace Sys2Proof

/-- One constructor for each shared operation. -/
inductive Shape where
  | ldRegReg (dst src : Reg8)
  | ldRegInd (dst : Reg8)
  | ldIndReg (r : Reg8)
  | ldRegImm (dst : Reg8) (n : Byte)
  | ldIndImm (n : Byte)
  | ldAPair (p : AddrPair)
  | ldPairA (p : AddrPair)
  | ldAAbs (n : Word)
  | ldAbsA (n : Word)
  | ldhA (n : Byte)
  | ldhStA (n : Byte)
  | ldAC
  | ldCA
  | ldIncA
  | ldDecA
  | ldAInc
  | ldADec
  | ldPairImm (p : Pair) (n : Word)
  | ldAbsSP (n : Word)
  | ldSPHL
  | ldHLSP (e : Byte)
  | aluR8 (op : AluOp) (o : R8)
  | aluImm (op : AluOp) (n : Byte)
  | incReg (r : Reg8)
  | decReg (r : Reg8)
  | incInd
  | decInd
  | incPair (p : Pair)
  | decPair (p : Pair)
  | addHLPair (p : Pair)
  | addSP (e : Byte)
  | rotA (op : RotOp)
  | rotR8 (op : RotOp) (o : R8)
  | bitR8 (y : Fin 8) (o : R8)
  | resR8 (y : Fin 8) (o : R8)
  | setR8 (y : Fin 8) (o : R8)
  | jp (n : Word)
  | jpHL
  | jpCond (cc : Cond) (n : Word)
  | jr (e : Byte)
  | jrCond (cc : Cond) (e : Byte)
  | call (n : Word)
  | callCond (cc : Cond) (n : Word)
  | ret
  | retCond (cc : Cond)
  | reti
  | pushPair (p : StackPair)
  | popPair (p : StackPair)
  | restart (y : Fin 8)
  | nop
  | daa
  | cpl
  | scf
  | ccf
  | di
  | ei
  | halt
  | stop
  | illegalCode (code : Word)

/-- The shape of an instruction. -/
def Instr.shape : Instr → Shape
  | .nop => .nop
  | .ld_BC_n16 n => .ldPairImm .bc n
  | .ld_indBC_A => .ldPairA .bc
  | .inc_BC => .incPair .bc
  | .inc_B => .incReg .b
  | .dec_B => .decReg .b
  | .ld_B_n8 n => .ldRegImm .b n
  | .rlca => .rotA .rlc
  | .ld_indN16_SP n => .ldAbsSP n
  | .add_HL_BC => .addHLPair .bc
  | .ld_A_indBC => .ldAPair .bc
  | .dec_BC => .decPair .bc
  | .inc_C => .incReg .c
  | .dec_C => .decReg .c
  | .ld_C_n8 n => .ldRegImm .c n
  | .rrca => .rotA .rrc
  | .stop => .stop
  | .ld_DE_n16 n => .ldPairImm .de n
  | .ld_indDE_A => .ldPairA .de
  | .inc_DE => .incPair .de
  | .inc_D => .incReg .d
  | .dec_D => .decReg .d
  | .ld_D_n8 n => .ldRegImm .d n
  | .rla => .rotA .rl
  | .jr_e8 e => .jr e
  | .add_HL_DE => .addHLPair .de
  | .ld_A_indDE => .ldAPair .de
  | .dec_DE => .decPair .de
  | .inc_E => .incReg .e
  | .dec_E => .decReg .e
  | .ld_E_n8 n => .ldRegImm .e n
  | .rra => .rotA .rr
  | .jr_NZ_e8 e => .jrCond .nz e
  | .ld_HL_n16 n => .ldPairImm .hl n
  | .ld_indHLinc_A => .ldIncA
  | .inc_HL => .incPair .hl
  | .inc_H => .incReg .h
  | .dec_H => .decReg .h
  | .ld_H_n8 n => .ldRegImm .h n
  | .daa => .daa
  | .jr_Z_e8 e => .jrCond .z e
  | .add_HL_HL => .addHLPair .hl
  | .ld_A_indHLinc => .ldAInc
  | .dec_HL => .decPair .hl
  | .inc_L => .incReg .l
  | .dec_L => .decReg .l
  | .ld_L_n8 n => .ldRegImm .l n
  | .cpl => .cpl
  | .jr_NC_e8 e => .jrCond .nc e
  | .ld_SP_n16 n => .ldPairImm .sp n
  | .ld_indHLdec_A => .ldDecA
  | .inc_SP => .incPair .sp
  | .inc_indHL => .incInd
  | .dec_indHL => .decInd
  | .ld_indHL_n8 n => .ldIndImm n
  | .scf => .scf
  | .jr_C_e8 e => .jrCond .c e
  | .add_HL_SP => .addHLPair .sp
  | .ld_A_indHLdec => .ldADec
  | .dec_SP => .decPair .sp
  | .inc_A => .incReg .a
  | .dec_A => .decReg .a
  | .ld_A_n8 n => .ldRegImm .a n
  | .ccf => .ccf
  | .ld_B_B => .ldRegReg .b .b
  | .ld_B_C => .ldRegReg .b .c
  | .ld_B_D => .ldRegReg .b .d
  | .ld_B_E => .ldRegReg .b .e
  | .ld_B_H => .ldRegReg .b .h
  | .ld_B_L => .ldRegReg .b .l
  | .ld_B_indHL => .ldRegInd .b
  | .ld_B_A => .ldRegReg .b .a
  | .ld_C_B => .ldRegReg .c .b
  | .ld_C_C => .ldRegReg .c .c
  | .ld_C_D => .ldRegReg .c .d
  | .ld_C_E => .ldRegReg .c .e
  | .ld_C_H => .ldRegReg .c .h
  | .ld_C_L => .ldRegReg .c .l
  | .ld_C_indHL => .ldRegInd .c
  | .ld_C_A => .ldRegReg .c .a
  | .ld_D_B => .ldRegReg .d .b
  | .ld_D_C => .ldRegReg .d .c
  | .ld_D_D => .ldRegReg .d .d
  | .ld_D_E => .ldRegReg .d .e
  | .ld_D_H => .ldRegReg .d .h
  | .ld_D_L => .ldRegReg .d .l
  | .ld_D_indHL => .ldRegInd .d
  | .ld_D_A => .ldRegReg .d .a
  | .ld_E_B => .ldRegReg .e .b
  | .ld_E_C => .ldRegReg .e .c
  | .ld_E_D => .ldRegReg .e .d
  | .ld_E_E => .ldRegReg .e .e
  | .ld_E_H => .ldRegReg .e .h
  | .ld_E_L => .ldRegReg .e .l
  | .ld_E_indHL => .ldRegInd .e
  | .ld_E_A => .ldRegReg .e .a
  | .ld_H_B => .ldRegReg .h .b
  | .ld_H_C => .ldRegReg .h .c
  | .ld_H_D => .ldRegReg .h .d
  | .ld_H_E => .ldRegReg .h .e
  | .ld_H_H => .ldRegReg .h .h
  | .ld_H_L => .ldRegReg .h .l
  | .ld_H_indHL => .ldRegInd .h
  | .ld_H_A => .ldRegReg .h .a
  | .ld_L_B => .ldRegReg .l .b
  | .ld_L_C => .ldRegReg .l .c
  | .ld_L_D => .ldRegReg .l .d
  | .ld_L_E => .ldRegReg .l .e
  | .ld_L_H => .ldRegReg .l .h
  | .ld_L_L => .ldRegReg .l .l
  | .ld_L_indHL => .ldRegInd .l
  | .ld_L_A => .ldRegReg .l .a
  | .ld_indHL_B => .ldIndReg .b
  | .ld_indHL_C => .ldIndReg .c
  | .ld_indHL_D => .ldIndReg .d
  | .ld_indHL_E => .ldIndReg .e
  | .ld_indHL_H => .ldIndReg .h
  | .ld_indHL_L => .ldIndReg .l
  | .halt => .halt
  | .ld_indHL_A => .ldIndReg .a
  | .ld_A_B => .ldRegReg .a .b
  | .ld_A_C => .ldRegReg .a .c
  | .ld_A_D => .ldRegReg .a .d
  | .ld_A_E => .ldRegReg .a .e
  | .ld_A_H => .ldRegReg .a .h
  | .ld_A_L => .ldRegReg .a .l
  | .ld_A_indHL => .ldRegInd .a
  | .ld_A_A => .ldRegReg .a .a
  | .add_A_B => .aluR8 .add (.reg .b)
  | .add_A_C => .aluR8 .add (.reg .c)
  | .add_A_D => .aluR8 .add (.reg .d)
  | .add_A_E => .aluR8 .add (.reg .e)
  | .add_A_H => .aluR8 .add (.reg .h)
  | .add_A_L => .aluR8 .add (.reg .l)
  | .add_A_indHL => .aluR8 .add .indHL
  | .add_A_A => .aluR8 .add (.reg .a)
  | .adc_A_B => .aluR8 .adc (.reg .b)
  | .adc_A_C => .aluR8 .adc (.reg .c)
  | .adc_A_D => .aluR8 .adc (.reg .d)
  | .adc_A_E => .aluR8 .adc (.reg .e)
  | .adc_A_H => .aluR8 .adc (.reg .h)
  | .adc_A_L => .aluR8 .adc (.reg .l)
  | .adc_A_indHL => .aluR8 .adc .indHL
  | .adc_A_A => .aluR8 .adc (.reg .a)
  | .sub_B => .aluR8 .sub (.reg .b)
  | .sub_C => .aluR8 .sub (.reg .c)
  | .sub_D => .aluR8 .sub (.reg .d)
  | .sub_E => .aluR8 .sub (.reg .e)
  | .sub_H => .aluR8 .sub (.reg .h)
  | .sub_L => .aluR8 .sub (.reg .l)
  | .sub_indHL => .aluR8 .sub .indHL
  | .sub_A => .aluR8 .sub (.reg .a)
  | .sbc_A_B => .aluR8 .sbc (.reg .b)
  | .sbc_A_C => .aluR8 .sbc (.reg .c)
  | .sbc_A_D => .aluR8 .sbc (.reg .d)
  | .sbc_A_E => .aluR8 .sbc (.reg .e)
  | .sbc_A_H => .aluR8 .sbc (.reg .h)
  | .sbc_A_L => .aluR8 .sbc (.reg .l)
  | .sbc_A_indHL => .aluR8 .sbc .indHL
  | .sbc_A_A => .aluR8 .sbc (.reg .a)
  | .and_B => .aluR8 .and (.reg .b)
  | .and_C => .aluR8 .and (.reg .c)
  | .and_D => .aluR8 .and (.reg .d)
  | .and_E => .aluR8 .and (.reg .e)
  | .and_H => .aluR8 .and (.reg .h)
  | .and_L => .aluR8 .and (.reg .l)
  | .and_indHL => .aluR8 .and .indHL
  | .and_A => .aluR8 .and (.reg .a)
  | .xor_B => .aluR8 .xor (.reg .b)
  | .xor_C => .aluR8 .xor (.reg .c)
  | .xor_D => .aluR8 .xor (.reg .d)
  | .xor_E => .aluR8 .xor (.reg .e)
  | .xor_H => .aluR8 .xor (.reg .h)
  | .xor_L => .aluR8 .xor (.reg .l)
  | .xor_indHL => .aluR8 .xor .indHL
  | .xor_A => .aluR8 .xor (.reg .a)
  | .or_B => .aluR8 .or (.reg .b)
  | .or_C => .aluR8 .or (.reg .c)
  | .or_D => .aluR8 .or (.reg .d)
  | .or_E => .aluR8 .or (.reg .e)
  | .or_H => .aluR8 .or (.reg .h)
  | .or_L => .aluR8 .or (.reg .l)
  | .or_indHL => .aluR8 .or .indHL
  | .or_A => .aluR8 .or (.reg .a)
  | .cp_B => .aluR8 .cp (.reg .b)
  | .cp_C => .aluR8 .cp (.reg .c)
  | .cp_D => .aluR8 .cp (.reg .d)
  | .cp_E => .aluR8 .cp (.reg .e)
  | .cp_H => .aluR8 .cp (.reg .h)
  | .cp_L => .aluR8 .cp (.reg .l)
  | .cp_indHL => .aluR8 .cp .indHL
  | .cp_A => .aluR8 .cp (.reg .a)
  | .ret_NZ => .retCond .nz
  | .pop_BC => .popPair .bc
  | .jp_NZ_n16 n => .jpCond .nz n
  | .jp_n16 n => .jp n
  | .call_NZ_n16 n => .callCond .nz n
  | .push_BC => .pushPair .bc
  | .add_A_n8 n => .aluImm .add n
  | .rst_00 => .restart 0
  | .ret_Z => .retCond .z
  | .ret => .ret
  | .jp_Z_n16 n => .jpCond .z n
  | .call_Z_n16 n => .callCond .z n
  | .call_n16 n => .call n
  | .adc_A_n8 n => .aluImm .adc n
  | .rst_08 => .restart 1
  | .ret_NC => .retCond .nc
  | .pop_DE => .popPair .de
  | .jp_NC_n16 n => .jpCond .nc n
  | .call_NC_n16 n => .callCond .nc n
  | .push_DE => .pushPair .de
  | .sub_n8 n => .aluImm .sub n
  | .rst_10 => .restart 2
  | .ret_C => .retCond .c
  | .reti => .reti
  | .jp_C_n16 n => .jpCond .c n
  | .call_C_n16 n => .callCond .c n
  | .sbc_A_n8 n => .aluImm .sbc n
  | .rst_18 => .restart 3
  | .ldh_indN8_A n => .ldhStA n
  | .pop_HL => .popPair .hl
  | .ld_indC_A => .ldCA
  | .push_HL => .pushPair .hl
  | .and_n8 n => .aluImm .and n
  | .rst_20 => .restart 4
  | .add_SP_e8 e => .addSP e
  | .jp_HL => .jpHL
  | .ld_indN16_A n => .ldAbsA n
  | .xor_n8 n => .aluImm .xor n
  | .rst_28 => .restart 5
  | .ldh_A_indN8 n => .ldhA n
  | .pop_AF => .popPair .af
  | .ld_A_indC => .ldAC
  | .di => .di
  | .push_AF => .pushPair .af
  | .or_n8 n => .aluImm .or n
  | .rst_30 => .restart 6
  | .ld_HL_SPe8 e => .ldHLSP e
  | .ld_SP_HL => .ldSPHL
  | .ld_A_indN16 n => .ldAAbs n
  | .ei => .ei
  | .cp_n8 n => .aluImm .cp n
  | .rst_38 => .restart 7
  | .rlc_B => .rotR8 .rlc (.reg .b)
  | .rlc_C => .rotR8 .rlc (.reg .c)
  | .rlc_D => .rotR8 .rlc (.reg .d)
  | .rlc_E => .rotR8 .rlc (.reg .e)
  | .rlc_H => .rotR8 .rlc (.reg .h)
  | .rlc_L => .rotR8 .rlc (.reg .l)
  | .rlc_indHL => .rotR8 .rlc .indHL
  | .rlc_A => .rotR8 .rlc (.reg .a)
  | .rrc_B => .rotR8 .rrc (.reg .b)
  | .rrc_C => .rotR8 .rrc (.reg .c)
  | .rrc_D => .rotR8 .rrc (.reg .d)
  | .rrc_E => .rotR8 .rrc (.reg .e)
  | .rrc_H => .rotR8 .rrc (.reg .h)
  | .rrc_L => .rotR8 .rrc (.reg .l)
  | .rrc_indHL => .rotR8 .rrc .indHL
  | .rrc_A => .rotR8 .rrc (.reg .a)
  | .rl_B => .rotR8 .rl (.reg .b)
  | .rl_C => .rotR8 .rl (.reg .c)
  | .rl_D => .rotR8 .rl (.reg .d)
  | .rl_E => .rotR8 .rl (.reg .e)
  | .rl_H => .rotR8 .rl (.reg .h)
  | .rl_L => .rotR8 .rl (.reg .l)
  | .rl_indHL => .rotR8 .rl .indHL
  | .rl_A => .rotR8 .rl (.reg .a)
  | .rr_B => .rotR8 .rr (.reg .b)
  | .rr_C => .rotR8 .rr (.reg .c)
  | .rr_D => .rotR8 .rr (.reg .d)
  | .rr_E => .rotR8 .rr (.reg .e)
  | .rr_H => .rotR8 .rr (.reg .h)
  | .rr_L => .rotR8 .rr (.reg .l)
  | .rr_indHL => .rotR8 .rr .indHL
  | .rr_A => .rotR8 .rr (.reg .a)
  | .sla_B => .rotR8 .sla (.reg .b)
  | .sla_C => .rotR8 .sla (.reg .c)
  | .sla_D => .rotR8 .sla (.reg .d)
  | .sla_E => .rotR8 .sla (.reg .e)
  | .sla_H => .rotR8 .sla (.reg .h)
  | .sla_L => .rotR8 .sla (.reg .l)
  | .sla_indHL => .rotR8 .sla .indHL
  | .sla_A => .rotR8 .sla (.reg .a)
  | .sra_B => .rotR8 .sra (.reg .b)
  | .sra_C => .rotR8 .sra (.reg .c)
  | .sra_D => .rotR8 .sra (.reg .d)
  | .sra_E => .rotR8 .sra (.reg .e)
  | .sra_H => .rotR8 .sra (.reg .h)
  | .sra_L => .rotR8 .sra (.reg .l)
  | .sra_indHL => .rotR8 .sra .indHL
  | .sra_A => .rotR8 .sra (.reg .a)
  | .swap_B => .rotR8 .swap (.reg .b)
  | .swap_C => .rotR8 .swap (.reg .c)
  | .swap_D => .rotR8 .swap (.reg .d)
  | .swap_E => .rotR8 .swap (.reg .e)
  | .swap_H => .rotR8 .swap (.reg .h)
  | .swap_L => .rotR8 .swap (.reg .l)
  | .swap_indHL => .rotR8 .swap .indHL
  | .swap_A => .rotR8 .swap (.reg .a)
  | .srl_B => .rotR8 .srl (.reg .b)
  | .srl_C => .rotR8 .srl (.reg .c)
  | .srl_D => .rotR8 .srl (.reg .d)
  | .srl_E => .rotR8 .srl (.reg .e)
  | .srl_H => .rotR8 .srl (.reg .h)
  | .srl_L => .rotR8 .srl (.reg .l)
  | .srl_indHL => .rotR8 .srl .indHL
  | .srl_A => .rotR8 .srl (.reg .a)
  | .bit_0_B => .bitR8 0 (.reg .b)
  | .bit_0_C => .bitR8 0 (.reg .c)
  | .bit_0_D => .bitR8 0 (.reg .d)
  | .bit_0_E => .bitR8 0 (.reg .e)
  | .bit_0_H => .bitR8 0 (.reg .h)
  | .bit_0_L => .bitR8 0 (.reg .l)
  | .bit_0_indHL => .bitR8 0 .indHL
  | .bit_0_A => .bitR8 0 (.reg .a)
  | .bit_1_B => .bitR8 1 (.reg .b)
  | .bit_1_C => .bitR8 1 (.reg .c)
  | .bit_1_D => .bitR8 1 (.reg .d)
  | .bit_1_E => .bitR8 1 (.reg .e)
  | .bit_1_H => .bitR8 1 (.reg .h)
  | .bit_1_L => .bitR8 1 (.reg .l)
  | .bit_1_indHL => .bitR8 1 .indHL
  | .bit_1_A => .bitR8 1 (.reg .a)
  | .bit_2_B => .bitR8 2 (.reg .b)
  | .bit_2_C => .bitR8 2 (.reg .c)
  | .bit_2_D => .bitR8 2 (.reg .d)
  | .bit_2_E => .bitR8 2 (.reg .e)
  | .bit_2_H => .bitR8 2 (.reg .h)
  | .bit_2_L => .bitR8 2 (.reg .l)
  | .bit_2_indHL => .bitR8 2 .indHL
  | .bit_2_A => .bitR8 2 (.reg .a)
  | .bit_3_B => .bitR8 3 (.reg .b)
  | .bit_3_C => .bitR8 3 (.reg .c)
  | .bit_3_D => .bitR8 3 (.reg .d)
  | .bit_3_E => .bitR8 3 (.reg .e)
  | .bit_3_H => .bitR8 3 (.reg .h)
  | .bit_3_L => .bitR8 3 (.reg .l)
  | .bit_3_indHL => .bitR8 3 .indHL
  | .bit_3_A => .bitR8 3 (.reg .a)
  | .bit_4_B => .bitR8 4 (.reg .b)
  | .bit_4_C => .bitR8 4 (.reg .c)
  | .bit_4_D => .bitR8 4 (.reg .d)
  | .bit_4_E => .bitR8 4 (.reg .e)
  | .bit_4_H => .bitR8 4 (.reg .h)
  | .bit_4_L => .bitR8 4 (.reg .l)
  | .bit_4_indHL => .bitR8 4 .indHL
  | .bit_4_A => .bitR8 4 (.reg .a)
  | .bit_5_B => .bitR8 5 (.reg .b)
  | .bit_5_C => .bitR8 5 (.reg .c)
  | .bit_5_D => .bitR8 5 (.reg .d)
  | .bit_5_E => .bitR8 5 (.reg .e)
  | .bit_5_H => .bitR8 5 (.reg .h)
  | .bit_5_L => .bitR8 5 (.reg .l)
  | .bit_5_indHL => .bitR8 5 .indHL
  | .bit_5_A => .bitR8 5 (.reg .a)
  | .bit_6_B => .bitR8 6 (.reg .b)
  | .bit_6_C => .bitR8 6 (.reg .c)
  | .bit_6_D => .bitR8 6 (.reg .d)
  | .bit_6_E => .bitR8 6 (.reg .e)
  | .bit_6_H => .bitR8 6 (.reg .h)
  | .bit_6_L => .bitR8 6 (.reg .l)
  | .bit_6_indHL => .bitR8 6 .indHL
  | .bit_6_A => .bitR8 6 (.reg .a)
  | .bit_7_B => .bitR8 7 (.reg .b)
  | .bit_7_C => .bitR8 7 (.reg .c)
  | .bit_7_D => .bitR8 7 (.reg .d)
  | .bit_7_E => .bitR8 7 (.reg .e)
  | .bit_7_H => .bitR8 7 (.reg .h)
  | .bit_7_L => .bitR8 7 (.reg .l)
  | .bit_7_indHL => .bitR8 7 .indHL
  | .bit_7_A => .bitR8 7 (.reg .a)
  | .res_0_B => .resR8 0 (.reg .b)
  | .res_0_C => .resR8 0 (.reg .c)
  | .res_0_D => .resR8 0 (.reg .d)
  | .res_0_E => .resR8 0 (.reg .e)
  | .res_0_H => .resR8 0 (.reg .h)
  | .res_0_L => .resR8 0 (.reg .l)
  | .res_0_indHL => .resR8 0 .indHL
  | .res_0_A => .resR8 0 (.reg .a)
  | .res_1_B => .resR8 1 (.reg .b)
  | .res_1_C => .resR8 1 (.reg .c)
  | .res_1_D => .resR8 1 (.reg .d)
  | .res_1_E => .resR8 1 (.reg .e)
  | .res_1_H => .resR8 1 (.reg .h)
  | .res_1_L => .resR8 1 (.reg .l)
  | .res_1_indHL => .resR8 1 .indHL
  | .res_1_A => .resR8 1 (.reg .a)
  | .res_2_B => .resR8 2 (.reg .b)
  | .res_2_C => .resR8 2 (.reg .c)
  | .res_2_D => .resR8 2 (.reg .d)
  | .res_2_E => .resR8 2 (.reg .e)
  | .res_2_H => .resR8 2 (.reg .h)
  | .res_2_L => .resR8 2 (.reg .l)
  | .res_2_indHL => .resR8 2 .indHL
  | .res_2_A => .resR8 2 (.reg .a)
  | .res_3_B => .resR8 3 (.reg .b)
  | .res_3_C => .resR8 3 (.reg .c)
  | .res_3_D => .resR8 3 (.reg .d)
  | .res_3_E => .resR8 3 (.reg .e)
  | .res_3_H => .resR8 3 (.reg .h)
  | .res_3_L => .resR8 3 (.reg .l)
  | .res_3_indHL => .resR8 3 .indHL
  | .res_3_A => .resR8 3 (.reg .a)
  | .res_4_B => .resR8 4 (.reg .b)
  | .res_4_C => .resR8 4 (.reg .c)
  | .res_4_D => .resR8 4 (.reg .d)
  | .res_4_E => .resR8 4 (.reg .e)
  | .res_4_H => .resR8 4 (.reg .h)
  | .res_4_L => .resR8 4 (.reg .l)
  | .res_4_indHL => .resR8 4 .indHL
  | .res_4_A => .resR8 4 (.reg .a)
  | .res_5_B => .resR8 5 (.reg .b)
  | .res_5_C => .resR8 5 (.reg .c)
  | .res_5_D => .resR8 5 (.reg .d)
  | .res_5_E => .resR8 5 (.reg .e)
  | .res_5_H => .resR8 5 (.reg .h)
  | .res_5_L => .resR8 5 (.reg .l)
  | .res_5_indHL => .resR8 5 .indHL
  | .res_5_A => .resR8 5 (.reg .a)
  | .res_6_B => .resR8 6 (.reg .b)
  | .res_6_C => .resR8 6 (.reg .c)
  | .res_6_D => .resR8 6 (.reg .d)
  | .res_6_E => .resR8 6 (.reg .e)
  | .res_6_H => .resR8 6 (.reg .h)
  | .res_6_L => .resR8 6 (.reg .l)
  | .res_6_indHL => .resR8 6 .indHL
  | .res_6_A => .resR8 6 (.reg .a)
  | .res_7_B => .resR8 7 (.reg .b)
  | .res_7_C => .resR8 7 (.reg .c)
  | .res_7_D => .resR8 7 (.reg .d)
  | .res_7_E => .resR8 7 (.reg .e)
  | .res_7_H => .resR8 7 (.reg .h)
  | .res_7_L => .resR8 7 (.reg .l)
  | .res_7_indHL => .resR8 7 .indHL
  | .res_7_A => .resR8 7 (.reg .a)
  | .set_0_B => .setR8 0 (.reg .b)
  | .set_0_C => .setR8 0 (.reg .c)
  | .set_0_D => .setR8 0 (.reg .d)
  | .set_0_E => .setR8 0 (.reg .e)
  | .set_0_H => .setR8 0 (.reg .h)
  | .set_0_L => .setR8 0 (.reg .l)
  | .set_0_indHL => .setR8 0 .indHL
  | .set_0_A => .setR8 0 (.reg .a)
  | .set_1_B => .setR8 1 (.reg .b)
  | .set_1_C => .setR8 1 (.reg .c)
  | .set_1_D => .setR8 1 (.reg .d)
  | .set_1_E => .setR8 1 (.reg .e)
  | .set_1_H => .setR8 1 (.reg .h)
  | .set_1_L => .setR8 1 (.reg .l)
  | .set_1_indHL => .setR8 1 .indHL
  | .set_1_A => .setR8 1 (.reg .a)
  | .set_2_B => .setR8 2 (.reg .b)
  | .set_2_C => .setR8 2 (.reg .c)
  | .set_2_D => .setR8 2 (.reg .d)
  | .set_2_E => .setR8 2 (.reg .e)
  | .set_2_H => .setR8 2 (.reg .h)
  | .set_2_L => .setR8 2 (.reg .l)
  | .set_2_indHL => .setR8 2 .indHL
  | .set_2_A => .setR8 2 (.reg .a)
  | .set_3_B => .setR8 3 (.reg .b)
  | .set_3_C => .setR8 3 (.reg .c)
  | .set_3_D => .setR8 3 (.reg .d)
  | .set_3_E => .setR8 3 (.reg .e)
  | .set_3_H => .setR8 3 (.reg .h)
  | .set_3_L => .setR8 3 (.reg .l)
  | .set_3_indHL => .setR8 3 .indHL
  | .set_3_A => .setR8 3 (.reg .a)
  | .set_4_B => .setR8 4 (.reg .b)
  | .set_4_C => .setR8 4 (.reg .c)
  | .set_4_D => .setR8 4 (.reg .d)
  | .set_4_E => .setR8 4 (.reg .e)
  | .set_4_H => .setR8 4 (.reg .h)
  | .set_4_L => .setR8 4 (.reg .l)
  | .set_4_indHL => .setR8 4 .indHL
  | .set_4_A => .setR8 4 (.reg .a)
  | .set_5_B => .setR8 5 (.reg .b)
  | .set_5_C => .setR8 5 (.reg .c)
  | .set_5_D => .setR8 5 (.reg .d)
  | .set_5_E => .setR8 5 (.reg .e)
  | .set_5_H => .setR8 5 (.reg .h)
  | .set_5_L => .setR8 5 (.reg .l)
  | .set_5_indHL => .setR8 5 .indHL
  | .set_5_A => .setR8 5 (.reg .a)
  | .set_6_B => .setR8 6 (.reg .b)
  | .set_6_C => .setR8 6 (.reg .c)
  | .set_6_D => .setR8 6 (.reg .d)
  | .set_6_E => .setR8 6 (.reg .e)
  | .set_6_H => .setR8 6 (.reg .h)
  | .set_6_L => .setR8 6 (.reg .l)
  | .set_6_indHL => .setR8 6 .indHL
  | .set_6_A => .setR8 6 (.reg .a)
  | .set_7_B => .setR8 7 (.reg .b)
  | .set_7_C => .setR8 7 (.reg .c)
  | .set_7_D => .setR8 7 (.reg .d)
  | .set_7_E => .setR8 7 (.reg .e)
  | .set_7_H => .setR8 7 (.reg .h)
  | .set_7_L => .setR8 7 (.reg .l)
  | .set_7_indHL => .setR8 7 .indHL
  | .set_7_A => .setR8 7 (.reg .a)
  | .illegal_D3 => .illegalCode 0x00D3#16
  | .illegal_DB => .illegalCode 0x00DB#16
  | .illegal_DD => .illegalCode 0x00DD#16
  | .illegal_E3 => .illegalCode 0x00E3#16
  | .illegal_E4 => .illegalCode 0x00E4#16
  | .illegal_EB => .illegalCode 0x00EB#16
  | .illegal_EC => .illegalCode 0x00EC#16
  | .illegal_ED => .illegalCode 0x00ED#16
  | .illegal_F4 => .illegalCode 0x00F4#16
  | .illegal_FC => .illegalCode 0x00FC#16
  | .illegal_FD => .illegalCode 0x00FD#16

namespace Machine

/-- The operation of a shape. -/
def runShape (s : State) : Shape → Out
  | .ldRegReg dst src => ldRegReg dst src s
  | .ldRegInd dst => ldRegInd dst s
  | .ldIndReg r => ldIndReg r s
  | .ldRegImm dst n => ldRegImm dst n s
  | .ldIndImm n => exec_ld_indHL_n8 n s
  | .ldAPair p => ldAPair p s
  | .ldPairA p => ldPairA p s
  | .ldAAbs n => ldAFrom n 3 (s.cycles 0xFA 16) s
  | .ldAbsA n => ldToA n 3 (s.cycles 0xEA 16) s
  | .ldhA n => ldAFrom (highPage n) 2 (s.cycles 0xF0 12) s
  | .ldhStA n => ldToA (highPage n) 2 (s.cycles 0xE0 12) s
  | .ldAC => ldAFrom (highPage s.c) 1 (s.cycles 0xF2 8) s
  | .ldCA => ldToA (highPage s.c) 1 (s.cycles 0xE2 8) s
  | .ldIncA => ldIndStepA 1 (s.cycles 0x22 8) s
  | .ldDecA => ldIndStepA (-1) (s.cycles 0x32 8) s
  | .ldAInc => ldAIndStep 1 (s.cycles 0x2A 8) s
  | .ldADec => ldAIndStep (-1) (s.cycles 0x3A 8) s
  | .ldPairImm p n => ldPairImm p n s
  | .ldAbsSP n => exec_ld_indN16_SP n s
  | .ldSPHL => exec_ld_SP_HL s
  | .ldHLSP e => exec_ld_HL_SPe8 e s
  | .aluR8 op o => aluR8 op o s
  | .aluImm op n => aluImm op n s
  | .incReg r => incReg r s
  | .decReg r => decReg r s
  | .incInd => exec_inc_indHL s
  | .decInd => exec_dec_indHL s
  | .incPair p => incPair p s
  | .decPair p => decPair p s
  | .addHLPair p => addHLPair p s
  | .addSP e => exec_add_SP_e8 e s
  | .rotA op => rotA op s
  | .rotR8 op o => rotR8 op o s
  | .bitR8 y o => bitR8 y o s
  | .resR8 y o => resR8 y o s
  | .setR8 y o => setR8 y o s
  | .jp n => exec_jp_n16 n s
  | .jpHL => exec_jp_HL s
  | .jpCond cc n => jpCond cc n s
  | .jr e => exec_jr_e8 e s
  | .jrCond cc e => jrCond cc e s
  | .call n => callTo n (s.cycles 0xCD 24) s
  | .callCond cc n => callCond cc n s
  | .ret => returnIn (s.cycles 0xC9 16) s
  | .retCond cc => retCond cc s
  | .reti => exec_reti s
  | .pushPair p => pushPair p s
  | .popPair p => popPair p s
  | .restart y => restart y s
  | .nop => exec_nop s
  | .daa => exec_daa s
  | .cpl => exec_cpl s
  | .scf => exec_scf s
  | .ccf => exec_ccf s
  | .di => exec_di s
  | .ei => exec_ei s
  | .halt => endRun .halt 1 (s.cycles 0x76 4) s
  | .stop => endRun .stop 2 (s.cycles 0x10 4) s
  | .illegalCode code => illegalCode code s

/-- The meaning of an instruction is the operation of its shape. -/
theorem exec_eq_runShape (i : Instr) (s : State) : exec i s = runShape s i.shape := by
  cases i <;> rfl

end Machine

/-! ## The shape of each group of constructors -/

@[simp] theorem Instr.shape_ofLdRegReg (dst src : Reg8) : (Instr.ofLdRegReg dst src).shape = .ldRegReg dst src := by
  cases dst <;> cases src <;> rfl

@[simp] theorem Instr.shape_ofLdRegInd (dst : Reg8) : (Instr.ofLdRegInd dst).shape = .ldRegInd dst := by
  cases dst <;> rfl

@[simp] theorem Instr.shape_ofLdIndReg (r : Reg8) : (Instr.ofLdIndReg r).shape = .ldIndReg r := by
  cases r <;> rfl

@[simp] theorem Instr.shape_ofLdRegImm (dst : Reg8) (n : Byte) : (Instr.ofLdRegImm dst n).shape = .ldRegImm dst n := by
  cases dst <;> rfl

@[simp] theorem Instr.shape_ofLdAPair (p : AddrPair) : (Instr.ofLdAPair p).shape = .ldAPair p := by
  cases p <;> rfl

@[simp] theorem Instr.shape_ofLdPairA (p : AddrPair) : (Instr.ofLdPairA p).shape = .ldPairA p := by
  cases p <;> rfl

@[simp] theorem Instr.shape_ofLdPairImm (p : Pair) (n : Word) : (Instr.ofLdPairImm p n).shape = .ldPairImm p n := by
  cases p <;> rfl

@[simp] theorem Instr.shape_ofAluR8 (op : AluOp) (o : R8) : (Instr.ofAluR8 op o).shape = .aluR8 op o := by
  cases op <;> rcases o with (_ | _ | _ | _ | _ | _ | _) | _ <;> rfl

@[simp] theorem Instr.shape_ofAluImm (op : AluOp) (n : Byte) : (Instr.ofAluImm op n).shape = .aluImm op n := by
  cases op <;> rfl

@[simp] theorem Instr.shape_ofIncReg (r : Reg8) : (Instr.ofIncReg r).shape = .incReg r := by
  cases r <;> rfl

@[simp] theorem Instr.shape_ofDecReg (r : Reg8) : (Instr.ofDecReg r).shape = .decReg r := by
  cases r <;> rfl

@[simp] theorem Instr.shape_ofIncPair (p : Pair) : (Instr.ofIncPair p).shape = .incPair p := by
  cases p <;> rfl

@[simp] theorem Instr.shape_ofDecPair (p : Pair) : (Instr.ofDecPair p).shape = .decPair p := by
  cases p <;> rfl

@[simp] theorem Instr.shape_ofAddHL (p : Pair) : (Instr.ofAddHL p).shape = .addHLPair p := by
  cases p <;> rfl

@[simp] theorem Instr.shape_ofRot (op : RotOp) (o : R8) : (Instr.ofRot op o).shape = .rotR8 op o := by
  cases op <;> rcases o with (_ | _ | _ | _ | _ | _ | _) | _ <;> rfl

@[simp] theorem Instr.shape_ofBit (y : Fin 8) (o : R8) : (Instr.ofBit y o).shape = .bitR8 y o := by
  fin_cases y <;> rcases o with (_ | _ | _ | _ | _ | _ | _) | _ <;> rfl

@[simp] theorem Instr.shape_ofRes (y : Fin 8) (o : R8) : (Instr.ofRes y o).shape = .resR8 y o := by
  fin_cases y <;> rcases o with (_ | _ | _ | _ | _ | _ | _) | _ <;> rfl

@[simp] theorem Instr.shape_ofSet (y : Fin 8) (o : R8) : (Instr.ofSet y o).shape = .setR8 y o := by
  fin_cases y <;> rcases o with (_ | _ | _ | _ | _ | _ | _) | _ <;> rfl

@[simp] theorem Instr.shape_ofJpCond (cc : Cond) (n : Word) : (Instr.ofJpCond cc n).shape = .jpCond cc n := by
  cases cc <;> rfl

@[simp] theorem Instr.shape_ofJrCond (cc : Cond) (e : Byte) : (Instr.ofJrCond cc e).shape = .jrCond cc e := by
  cases cc <;> rfl

@[simp] theorem Instr.shape_ofCallCond (cc : Cond) (n : Word) : (Instr.ofCallCond cc n).shape = .callCond cc n := by
  cases cc <;> rfl

@[simp] theorem Instr.shape_ofRetCond (cc : Cond) : (Instr.ofRetCond cc).shape = .retCond cc := by
  cases cc <;> rfl

@[simp] theorem Instr.shape_ofPush (p : StackPair) : (Instr.ofPush p).shape = .pushPair p := by
  cases p <;> rfl

@[simp] theorem Instr.shape_ofPop (p : StackPair) : (Instr.ofPop p).shape = .popPair p := by
  cases p <;> rfl

@[simp] theorem Instr.shape_ofRst (y : Fin 8) : (Instr.ofRst y).shape = .restart y := by
  fin_cases y <;> rfl


/-! ## The instruction of a shape -/

/-- The instruction that has a given shape. (`rotA` of an operation that no accumulator rotate has, and an unassigned
code that there is not, stand for the last of their group.) -/
def Shape.instr : Shape → Instr
  | .ldRegReg dst r => .ofLdRegReg dst r
  | .ldRegInd dst => .ofLdRegInd dst
  | .ldIndReg r => .ofLdIndReg r
  | .ldRegImm dst n => .ofLdRegImm dst n
  | .ldIndImm n => .ld_indHL_n8 n
  | .ldAPair p => .ofLdAPair p
  | .ldPairA p => .ofLdPairA p
  | .ldAAbs n => .ld_A_indN16 n
  | .ldAbsA n => .ld_indN16_A n
  | .ldhA n => .ldh_A_indN8 n
  | .ldhStA n => .ldh_indN8_A n
  | .ldAC => .ld_A_indC
  | .ldCA => .ld_indC_A
  | .ldIncA => .ld_indHLinc_A
  | .ldDecA => .ld_indHLdec_A
  | .ldAInc => .ld_A_indHLinc
  | .ldADec => .ld_A_indHLdec
  | .ldPairImm p n => .ofLdPairImm p n
  | .ldAbsSP n => .ld_indN16_SP n
  | .ldSPHL => .ld_SP_HL
  | .ldHLSP e => .ld_HL_SPe8 e
  | .aluR8 op o => .ofAluR8 op o
  | .aluImm op n => .ofAluImm op n
  | .incReg r => .ofIncReg r
  | .decReg r => .ofDecReg r
  | .incInd => .inc_indHL
  | .decInd => .dec_indHL
  | .incPair p => .ofIncPair p
  | .decPair p => .ofDecPair p
  | .addHLPair p => .ofAddHL p
  | .addSP e => .add_SP_e8 e
  | .rotA op => if op = .rlc then .rlca else if op = .rrc then .rrca else if op = .rl then .rla else .rra
  | .rotR8 op o => .ofRot op o
  | .bitR8 y o => .ofBit y o
  | .resR8 y o => .ofRes y o
  | .setR8 y o => .ofSet y o
  | .jp n => .jp_n16 n
  | .jpHL => .jp_HL
  | .jpCond cc n => .ofJpCond cc n
  | .jr e => .jr_e8 e
  | .jrCond cc e => .ofJrCond cc e
  | .call n => .call_n16 n
  | .callCond cc n => .ofCallCond cc n
  | .ret => .ret
  | .retCond cc => .ofRetCond cc
  | .reti => .reti
  | .pushPair p => .ofPush p
  | .popPair p => .ofPop p
  | .restart y => .ofRst y
  | .nop => .nop
  | .daa => .daa
  | .cpl => .cpl
  | .scf => .scf
  | .ccf => .ccf
  | .di => .di
  | .ei => .ei
  | .halt => .halt
  | .stop => .stop
  | .illegalCode code =>
    if code = 0x00D3#16 then .illegal_D3 else if code = 0x00DB#16 then .illegal_DB
    else if code = 0x00DD#16 then .illegal_DD else if code = 0x00E3#16 then .illegal_E3
    else if code = 0x00E4#16 then .illegal_E4 else if code = 0x00EB#16 then .illegal_EB
    else if code = 0x00EC#16 then .illegal_EC else if code = 0x00ED#16 then .illegal_ED
    else if code = 0x00F4#16 then .illegal_F4 else if code = 0x00FC#16 then .illegal_FC else .illegal_FD

/-- An instruction is the instruction of its shape. -/
theorem Instr.instr_shape (i : Instr) : i.shape.instr = i := by
  cases i <;> rfl

/-- A claim about every instruction is a case analysis over the shapes. -/
theorem Instr.cases_shape {P : Instr → Prop} (h : ∀ sh : Shape, P sh.instr) (i : Instr) : P i :=
  i.instr_shape ▸ h i.shape

end Sys2Proof
end

