-- ==== Sys2Proof/Laws/Faults.lean ====
section
/-! SUPPORT. What a fault of an instruction can be, said once: which record it carries, and that the timer and what
`step()` has returned are as before the instruction. -/

namespace Sys2Proof.Machine

/-- The faults of an instruction at state s (spec/60_exceptions.md R302). -/
inductive FaultOf (s : State) : Fault → Prop
  | illegal (code : Word) : FaultOf s (raise (.illegalOpcode s.pc code) (s.fetched 1))
  | access (addr : Word) (kind : AccessKind) (u : State) (h : prohibited addr = true) (ht : u.timer = s.timer)
    (he : u.elapsed = s.elapsed) : FaultOf s (raise (.prohibitedAccess addr kind) u)
  | stack (v : Word) (hw : inStackWindow s.cfg v = false) (hv : v = s.sp - 2 ∨ v = s.sp + 2) :
    FaultOf s (raise (.stackFault v) ((s.fetched 1).setSP v))

/-! ## One operation -/

theorem readByte_eq_fault {addr : Word} {s : State} {e : Fault} (h : readByte addr s = .fault e) :
    prohibited addr = true ∧ e = raise (.prohibitedAccess addr .read) s := by
  cases hp : prohibited addr
  · rw [readByte_ok hp] at h
    cases h
  · rw [readByte_fault hp] at h
    cases h
    exact ⟨rfl, rfl⟩

theorem writeByte_eq_fault {addr : Word} {v : Byte} {s : State} {e : Fault} (h : writeByte addr v s = .fault e) :
    prohibited addr = true ∧ e = raise (.prohibitedAccess addr .write) s := by
  cases hp : prohibited addr
  · rw [writeByte_ok hp] at h
    cases h
  · rw [writeByte_fault hp] at h
    cases h
    exact ⟨rfl, rfl⟩

/-- A byte whose successor is prohibited is no timer register. -/
theorem busStore_timer_before_prohibited {addr : Word} (h : prohibited (addr + 1) = true) (v : Byte) (s : State) :
    (busStore addr v s).timer = s.timer := by
  have hr : regionOf addr ≠ .timer := by
    intro hr
    have h1 := regionOf_timer.1 hr
    have h2 := prohibited_iff.1 h
    bv_omega
  unfold busStore
  split <;> first | rfl | exact absurd ‹_› hr

/-- An operation that can only fault as `FaultOf` says. -/
def OnlyFaultsOf {α : Type} (s : State) (r : Res α) : Prop := ∀ e, r = .fault e → FaultOf s e

theorem OnlyFaultsOf.ok {α : Type} {s : State} (x : α) (u : State) : OnlyFaultsOf s (.ok x u) := by
  intro e h
  cases h

theorem onlyFaultsOf_readByte {s u : State} (addr : Word) (ht : u.timer = s.timer) (he : u.elapsed = s.elapsed) :
    OnlyFaultsOf s (readByte addr u) := by
  intro e h
  obtain ⟨hp, rfl⟩ := readByte_eq_fault h
  exact .access addr .read u hp ht he

theorem onlyFaultsOf_writeByte {s u : State} (addr : Word) (v : Byte) (ht : u.timer = s.timer)
    (he : u.elapsed = s.elapsed) : OnlyFaultsOf s (writeByte addr v u) := by
  intro e h
  obtain ⟨hp, rfl⟩ := writeByte_eq_fault h
  exact .access addr .write u hp ht he

theorem onlyFaultsOf_load (s : State) (addr n : Word) : OnlyFaultsOf s (readByte addr (s.fetched n)) :=
  onlyFaultsOf_readByte addr (State.fetched_timer n s) (State.fetched_elapsed n s)

theorem onlyFaultsOf_store (s : State) (addr n : Word) (v : Byte) : OnlyFaultsOf s (writeByte addr v (s.fetched n)) :=
  onlyFaultsOf_writeByte addr v (State.fetched_timer n s) (State.fetched_elapsed n s)

theorem onlyFaultsOf_store_after {s t : State} {addr n : Word} {v : Byte} (h : readByte addr (s.fetched n) = .ok v t)
    (addr' : Word) (w : Byte) : OnlyFaultsOf s (writeByte addr' w t) := by
  obtain ⟨-, -, rfl⟩ := readByte_eq_ok h
  exact onlyFaultsOf_writeByte _ _ (busAfterRead_timer _ _) (busAfterRead_elapsed _ _)

theorem onlyFaultsOf_writeWord {s u : State} (addr v : Word) (ht : u.timer = s.timer)
    (he : u.elapsed = s.elapsed) : OnlyFaultsOf s (writeWord addr v u) := by
  intro e h
  unfold writeWord at h
  cases h1 : writeByte addr (loByte v) u with
  | ok x w =>
    rw [h1, Res.bind_ok] at h
    obtain ⟨-, rfl⟩ := writeByte_eq_ok h1
    obtain ⟨hp, rfl⟩ := writeByte_eq_fault h
    exact .access _ .write _ hp ((busStore_timer_before_prohibited hp _ _).trans ht) ((busStore_elapsed _ _ _).trans he)
  | fault e' =>
    rw [h1, Res.bind_fault] at h
    cases h
    exact onlyFaultsOf_writeByte addr _ ht he _ h1

theorem onlyFaultsOf_readWord {s u : State} (addr : Word) (ht : u.timer = s.timer)
    (he : u.elapsed = s.elapsed) : OnlyFaultsOf s (readWord addr u) := by
  intro e h
  unfold readWord at h
  cases h1 : readByte addr u with
  | ok x w =>
    rw [h1, Res.bind_ok] at h
    obtain ⟨-, -, rfl⟩ := readByte_eq_ok h1
    cases h2 : readByte (addr + 1) (busAfterRead addr u) with
    | ok y w2 =>
      rw [h2, Res.bind_ok] at h
      cases h
    | fault e' =>
      rw [h2, Res.bind_fault] at h
      cases h
      exact onlyFaultsOf_readByte _ ((busAfterRead_timer _ _).trans ht) ((busAfterRead_elapsed _ _).trans he) _ h2
  | fault e' =>
    rw [h1, Res.bind_fault] at h
    cases h
    exact onlyFaultsOf_readByte addr ht he _ h1

theorem onlyFaultsOf_push16 (s : State) (v : Word) : OnlyFaultsOf s (push16 v (s.fetched 1)) := by
  intro e h
  cases hw : inStackWindow s.cfg (s.sp - 2)
  · rw [push16_window (s := s.fetched 1) hw] at h
    cases h
    exact .stack _ hw (.inl rfl)
  · rw [push16, State.fetched_sp, moveSP_ok (s := s.fetched 1) hw, Res.bind_ok] at h
    exact onlyFaultsOf_writeWord (s := s) (u := (s.fetched 1).setSP (s.sp - 2)) _ _ rfl rfl _ h

theorem onlyFaultsOf_pop16 (s : State) : OnlyFaultsOf s (pop16 (s.fetched 1)) := by
  intro e h
  cases hw : inStackWindow s.cfg (s.sp + 2)
  · rw [pop16_window (s := s.fetched 1) hw] at h
    cases h
    exact .stack _ hw (.inr rfl)
  · rw [pop16, State.fetched_sp, moveSP_ok (s := s.fetched 1) hw, Res.bind_ok] at h
    exact onlyFaultsOf_readWord (s := s) (u := (s.fetched 1).setSP (s.sp + 2)) _ rfl rfl _ h

theorem onlyFaultsOf_readR8 {s : State} (o : R8) (n : Word) : OnlyFaultsOf s (readR8 o (s.fetched n)) := by
  cases o with
  | reg r => exact .ok _ _
  | indHL => exact onlyFaultsOf_load s _ n

/-- Reading and then writing one operand: the write faults where the read does, so never after it. -/
theorem onlyFaultsOf_writeR8 {s t : State} {v : Byte} (o : R8) (w : Byte) {n : Word}
    (h : readR8 o (s.fetched n) = .ok v t) : OnlyFaultsOf s (writeR8 o w t) := by
  cases o with
  | reg r => exact .ok _ _
  | indHL => exact onlyFaultsOf_store_after h _ _

/-! ## One instruction -/

theorem OnlyFaultsOf.andThen {α : Type} {s : State} {r : Res α} {k : α → State → Out} (hr : OnlyFaultsOf s r)
    (hk : ∀ x u, r = .ok x u → ∀ e, k x u = .fault e → FaultOf s e) : ∀ e, r.andThen k = .fault e → FaultOf s e := by
  intro e h
  cases hc : r with
  | ok x u =>
    rw [hc] at h
    exact hk x u hc e h
  | fault e' =>
    rw [hc] at h
    cases h
    exact hr _ hc

/-- An operation followed by the end of the instruction. -/
theorem OnlyFaultsOf.finish {α : Type} {s : State} {r : Res α} (hr : OnlyFaultsOf s r) {p : α → Word} {c : Nat}
    {k : α → State → State} : ∀ e, r.andThen (fun x u => Machine.finish (p x) c (k x u)) = .fault e → FaultOf s e :=
  hr.andThen fun x u _ e h => by cases h

theorem shape_fault (s : State) (sh : Shape) : ∀ e, runShape s sh = .fault e → FaultOf s e := by
  cases sh with
  | ldRegInd => exact (onlyFaultsOf_load s _ 1).finish
  | ldAPair => exact (onlyFaultsOf_load s _ 1).finish
  | ldAAbs => exact (onlyFaultsOf_load s _ 1).finish
  | ldhA => exact (onlyFaultsOf_load s _ 1).finish
  | ldAC => exact (onlyFaultsOf_load s _ 1).finish
  | ldAInc => exact (onlyFaultsOf_load s _ 1).finish
  | ldADec => exact (onlyFaultsOf_load s _ 1).finish
  | ldIndReg => exact (onlyFaultsOf_store s _ 1 _).finish
  | ldIndImm => exact (onlyFaultsOf_store s _ 1 _).finish
  | ldPairA => exact (onlyFaultsOf_store s _ 1 _).finish
  | ldAbsA => exact (onlyFaultsOf_store s _ 1 _).finish
  | ldhStA => exact (onlyFaultsOf_store s _ 1 _).finish
  | ldCA => exact (onlyFaultsOf_store s _ 1 _).finish
  | ldIncA => exact (onlyFaultsOf_store s _ 1 _).finish
  | ldDecA => exact (onlyFaultsOf_store s _ 1 _).finish
  | ldAbsSP => exact (onlyFaultsOf_writeWord _ _ (State.fetched_timer 1 s) (State.fetched_elapsed 1 s)).finish
  | aluR8 op o => exact (onlyFaultsOf_readR8 o 1).finish
  | bitR8 y o => exact (onlyFaultsOf_readR8 o 2).finish
  | rotR8 op o => exact (onlyFaultsOf_readR8 o 2).andThen fun _ _ h => (onlyFaultsOf_writeR8 o _ h).finish
  | resR8 y o => exact (onlyFaultsOf_readR8 o 2).andThen fun _ _ h => (onlyFaultsOf_writeR8 o _ h).finish
  | setR8 y o => exact (onlyFaultsOf_readR8 o 2).andThen fun _ _ h => (onlyFaultsOf_writeR8 o _ h).finish
  | incInd => exact (onlyFaultsOf_load s _ 1).andThen fun _ _ h => (onlyFaultsOf_store_after h _ _).finish
  | decInd => exact (onlyFaultsOf_load s _ 1).andThen fun _ _ h => (onlyFaultsOf_store_after h _ _).finish
  | jpCond cc n =>
    intro e h
    change jpCond cc n s = _ at h
    unfold jpCond at h
    split at h <;> cases h
  | jrCond cc n =>
    intro e h
    change jrCond cc n s = _ at h
    unfold jrCond at h
    split at h <;> cases h
  | call => exact (onlyFaultsOf_push16 s _).finish
  | pushPair => exact (onlyFaultsOf_push16 s _).finish
  | restart => exact (onlyFaultsOf_push16 s _).finish
  | callCond cc n =>
    intro e h
    change callCond cc n s = _ at h
    unfold callCond at h
    split at h
    · exact (onlyFaultsOf_push16 s _).finish e h
    · cases h
  | ret => exact (onlyFaultsOf_pop16 s).finish
  | reti => exact (onlyFaultsOf_pop16 s).finish
  | popPair => exact (onlyFaultsOf_pop16 s).finish
  | retCond cc =>
    intro e h
    change retCond cc s = _ at h
    unfold retCond at h
    split at h
    · exact (onlyFaultsOf_pop16 s).finish e h
    · cases h
  | illegalCode code =>
    intro e h
    cases h
    exact .illegal code
  | _ =>
    intro e h
    cases h

/-- Every fault of an instruction is one of the three. -/
theorem exec_fault {i : Instr} {s : State} {e : Fault} (h : exec i s = .fault e) : FaultOf s e := by
  rw [exec_eq_runShape] at h
  exact shape_fault s i.shape e h

/-! ## The record of a fault, operation by operation (spec/60_exceptions.md R302) -/

/-- Every fault of an operation records something of Q. -/
def RecordsIn {α : Type} (Q : FaultInfo → Prop) (r : Res α) : Prop := ∀ e, r = .fault e → Q e.info

theorem RecordsIn.ok {α : Type} {Q : FaultInfo → Prop} (x : α) (u : State) : RecordsIn Q (.ok x u) := by
  intro e h
  cases h

theorem RecordsIn.raise {α : Type} {Q : FaultInfo → Prop} {i : FaultInfo} (h : Q i) (u : State) :
    RecordsIn Q (.fault (raise i u) : Res α) := by
  intro e he
  cases he
  rw [raise_info]
  exact h

theorem RecordsIn.bind {α β : Type} {Q : FaultInfo → Prop} {r : Res α} {k : α → State → Res β} (hr : RecordsIn Q r)
    (hk : ∀ x u, RecordsIn Q (k x u)) : RecordsIn Q (r.bind k) := by
  cases r with
  | ok x u => exact hk x u
  | fault e =>
    intro e' h
    cases h
    exact hr e rfl

theorem RecordsIn.andThen {α : Type} {Q : FaultInfo → Prop} {r : Res α} {k : α → State → Out} (hr : RecordsIn Q r)
    (hk : ∀ x u, r = .ok x u → ∀ e, k x u = .fault e → Q e.info) : ∀ e, r.andThen k = .fault e → Q e.info := by
  cases r with
  | ok x u => exact hk x u rfl
  | fault e =>
    intro e' h
    cases h
    exact hr e rfl

/-- An operation followed by the end of the instruction. -/
theorem RecordsIn.finish {α : Type} {Q : FaultInfo → Prop} {r : Res α} (hr : RecordsIn Q r) {p : α → Word} {c : Nat}
    {k : α → State → State} : ∀ e, r.andThen (fun x u => Machine.finish (p x) c (k x u)) = .fault e → Q e.info :=
  hr.andThen fun x u _ e h => by cases h

theorem recordsIn_readByte {Q : FaultInfo → Prop} {addr : Word}
    (h : prohibited addr = true → Q (.prohibitedAccess addr .read)) (s : State) : RecordsIn Q (readByte addr s) := by
  intro e he
  obtain ⟨hp, rfl⟩ := readByte_eq_fault he
  rw [raise_info]
  exact h hp

theorem recordsIn_writeByte {Q : FaultInfo → Prop} {addr : Word}
    (h : prohibited addr = true → Q (.prohibitedAccess addr .write)) (v : Byte) (s : State) :
    RecordsIn Q (writeByte addr v s) := by
  intro e he
  obtain ⟨hp, rfl⟩ := writeByte_eq_fault he
  rw [raise_info]
  exact h hp

theorem recordsIn_writeWord {Q : FaultInfo → Prop} {addr : Word}
    (h : ∀ a, prohibited a = true → a = addr ∨ a = addr + 1 → Q (.prohibitedAccess a .write)) (v : Word) (s : State) :
    RecordsIn Q (writeWord addr v s) :=
  (recordsIn_writeByte (fun hp => h _ hp (.inl rfl)) _ _).bind fun _ _ =>
    recordsIn_writeByte (fun hp => h _ hp (.inr rfl)) _ _

theorem recordsIn_readWord {Q : FaultInfo → Prop} {addr : Word}
    (h : ∀ a, prohibited a = true → a = addr ∨ a = addr + 1 → Q (.prohibitedAccess a .read)) (s : State) :
    RecordsIn Q (readWord addr s) :=
  (recordsIn_readByte (fun hp => h _ hp (.inl rfl)) _).bind fun _ _ =>
    (recordsIn_readByte (fun hp => h _ hp (.inr rfl)) _).bind fun _ _ => .ok _ _

/-- A push records the moved SP outside the window, or, inside it, the prohibited one of the two bytes below SP. -/
theorem recordsIn_push16 {Q : FaultInfo → Prop} {s : State}
    (hs : inStackWindow s.cfg (s.sp - 2) = false → Q (.stackFault (s.sp - 2)))
    (ha : inStackWindow s.cfg (s.sp - 2) = true → ∀ a, prohibited a = true → a = s.sp - 2 ∨ a = s.sp - 1 →
      Q (.prohibitedAccess a .write)) (v : Word) : RecordsIn Q (push16 v (s.fetched 1)) := by
  cases hw : inStackWindow s.cfg (s.sp - 2)
  · rw [push16_window (s := s.fetched 1) hw]
    exact .raise (hs hw) _
  · rw [push16, State.fetched_sp, moveSP_ok (s := s.fetched 1) hw, Res.bind_ok]
    refine recordsIn_writeWord (fun a hp h => ha hw a hp ?_) _ _
    rwa [State.setSP_sp, sub_two_add_one] at h

/-- A pop records the moved SP outside the window, or, inside it, the prohibited one of the two bytes at SP. -/
theorem recordsIn_pop16 {Q : FaultInfo → Prop} {s : State}
    (hs : inStackWindow s.cfg (s.sp + 2) = false → Q (.stackFault (s.sp + 2)))
    (ha : inStackWindow s.cfg (s.sp + 2) = true → ∀ a, prohibited a = true → a = s.sp ∨ a = s.sp + 1 →
      Q (.prohibitedAccess a .read)) : RecordsIn Q (pop16 (s.fetched 1)) := by
  cases hw : inStackWindow s.cfg (s.sp + 2)
  · rw [pop16_window (s := s.fetched 1) hw]
    exact .raise (hs hw) _
  · rw [pop16, State.fetched_sp, moveSP_ok (s := s.fetched 1) hw, Res.bind_ok]
    exact recordsIn_readWord (fun a hp h => ha hw a hp h) _

/-- A store right after a read of the same address does not fault: the read would have. -/
theorem recordsIn_store_after {Q : FaultInfo → Prop} {s t : State} {addr : Word} {v : Byte}
    (h : readByte addr s = .ok v t) (w : Byte) (u : State) : RecordsIn Q (writeByte addr w u) :=
  recordsIn_writeByte (fun hp => by rw [(readByte_eq_ok h).1] at hp; cases hp) w u

/-- The operand r8 records the read of HL, if it is the byte there. -/
theorem recordsIn_readR8 {Q : FaultInfo → Prop} {s : State} (o : R8) (n : Word)
    (h : o = .indHL → prohibited s.hl = true → Q (.prohibitedAccess s.hl .read)) :
    RecordsIn Q (readR8 o (s.fetched n)) := by
  cases o with
  | reg r => exact .ok _ _
  | indHL => exact recordsIn_readByte (h rfl) _

/-- Writing the operand r8 back right after reading it does not fault. -/
theorem recordsIn_writeR8_after {Q : FaultInfo → Prop} {s t : State} {v : Byte} (o : R8) {n : Word}
    (h : readR8 o (s.fetched n) = .ok v t) (w : Byte) : RecordsIn Q (writeR8 o w t) := by
  cases o with
  | reg r => exact .ok _ _
  | indHL =>
    obtain ⟨hp, -, rfl⟩ := readByte_eq_ok h
    exact recordsIn_writeByte (addr := State.hl _) (fun hq => by
      rw [State.hl, busAfterRead_h, busAfterRead_l, ← State.hl, hp] at hq
      cases hq) _ _

end Sys2Proof.Machine
end

