-- ==== Sys2Proof/Laws/Fetch.lean ====
section
/-! SUPPORT. What the decoder's tables say about the encoder, entry by entry, and the fetch of an instruction from the
CORE's own bytes. -/

namespace Sys2Proof

/-- What an entry of the unprefixed page says about the encodings that start with its byte. -/
def EntryAgrees (b0 : Byte) : Entry → Prop
  | .op i => encode i = [b0] ∧ i ≠ .stop
  | .opSkip i => i = .stop ∧ b0 = 0x10
  | .imm8 mk => ∀ n, encode (mk n) = [b0, n] ∧ mk n ≠ .stop
  | .imm16 mk => ∀ n, encode (mk n) = [b0, loByte n, hiByte n] ∧ mk n ≠ .stop
  | .cbPrefix => b0 = 0xCB

/-- The extended page agrees with the encoder (spec/30_encoding.md R109). -/
theorem cbEntry_agrees : ∀ b1 : Byte, encode (cbEntry b1) = [0xCB, b1] ∧ cbEntry b1 ≠ .stop := by decide

/-- The unprefixed page agrees with the encoder (R108). -/
theorem entryOf_agrees (b0 : Byte) : EntryAgrees b0 (entryOf b0) := by
  obtain ⟨k⟩ := b0
  fin_cases k <;> first
    | exact ⟨rfl, by intro h; cases h⟩
    | exact fun _ => ⟨rfl, by intro h; cases h⟩
    | exact ⟨rfl, rfl⟩
    | exact rfl

namespace Machine

theorem busAfterRead_own {addr : Word} {s : State} (h : external addr = false) : busAfterRead addr s = s := by
  rw [busAfterRead, h]
  rfl

theorem fetchByte_own {addr p : Word} {s : State} (he : external addr = false) (hp : prohibited addr = false) :
    fetchByte addr p s = .ok (busValue addr s) s := by
  rw [fetchByte, hp, busAfterRead_own he]
  rfl

theorem fetchByte_fault {addr p : Word} {s : State} (hp : prohibited addr = true) :
    fetchByte addr p s = .fault (raise (.prohibitedAccess addr .read) { s with pc := p }) := by
  rw [fetchByte, hp]
  rfl

theorem fetchCount_eq {i : Instr} {bs : List Byte} (h : encode i = bs) (hs : i ≠ .stop) :
    fetchCount i = bs.length := by
  rw [fetchCount, if_neg hs, Instr.length, ← h]
  rfl

theorem bytesAtPC_three (s : State) :
    s.bytesAtPC 3 = [busValue s.pc s, busValue (s.pc + 1) s, busValue (s.pc + 2) s] := by
  show [busValue (s.pc + 0#16) s, busValue (s.pc + 1) s, busValue (s.pc + 2) s] = _
  rw [BitVec.add_zero]

/-- The fetch reads the instruction that the bytes at PC decode to, and changes nothing, when the bytes it reads are
neither external nor prohibited (R102, R110). -/
theorem fetchInstr_own {s : State} {i : Instr} {rest : List Byte} (h : decode (s.bytesAtPC 3) = .instr i rest)
    (hf : ∀ k, k < fetchCount i →
      external (s.pc + BitVec.ofNat 16 k) = false ∧ prohibited (s.pc + BitVec.ofNat 16 k) = false) :
    fetchInstr s = .ok i s := by
  rw [bytesAtPC_three] at h
  have hpos : 0 < fetchCount i := by
    unfold fetchCount
    split
    · exact Nat.one_pos
    · cases i <;> exact Nat.succ_pos _
  have f0 : external (s.pc + 0#16) = false ∧ prohibited (s.pc + 0#16) = false := hf 0 hpos
  rw [BitVec.add_zero] at f0
  have f1 : 1 < fetchCount i → external (s.pc + 1) = false ∧ prohibited (s.pc + 1) = false := hf 1
  have f2 : 2 < fetchCount i → external (s.pc + 2) = false ∧ prohibited (s.pc + 2) = false := hf 2
  have hs := entryOf_agrees (busValue s.pc s)
  unfold fetchInstr
  rw [fetchByte_own f0.1 f0.2, Res.bind_ok]
  simp only [decode] at h
  generalize entryOf (busValue s.pc s) = entry at h hs ⊢
  cases entry with
  | op j =>
    cases h
    rfl
  | opSkip j =>
    cases h
    rfl
  | imm8 mk =>
    cases h
    have hl := fetchCount_eq (hs (busValue (s.pc + 1) s)).1 (hs _).2
    have g := f1 (by rw [hl]; simp)
    show (fetchByte (s.pc + 1) (s.pc + 1) s).bind _ = _
    rw [fetchByte_own g.1 g.2]
    rfl
  | imm16 mk =>
    cases h
    have hl := fetchCount_eq (hs (joinBytes (busValue (s.pc + 2) s) (busValue (s.pc + 1) s))).1 (hs _).2
    have g := f1 (by rw [hl]; simp)
    have g2 := f2 (by rw [hl]; simp)
    show (fetchByte (s.pc + 1) (s.pc + 1) s).bind _ = _
    rw [fetchByte_own g.1 g.2, Res.bind_ok, fetchByte_own g2.1 g2.2]
    rfl
  | cbPrefix =>
    cases h
    have hl := fetchCount_eq (cbEntry_agrees (busValue (s.pc + 1) s)).1 (cbEntry_agrees _).2
    have g := f1 (by rw [hl]; simp)
    show (fetchByte (s.pc + 1) (s.pc + 1) s).bind _ = _
    rw [fetchByte_own g.1 g.2]
    rfl

theorem fetchByte_ok {addr p : Word} {s : State} (hp : prohibited addr = false) :
    fetchByte addr p s = .ok (busValue addr s) (busAfterRead addr s) := by
  rw [fetchByte, hp]
  rfl

/-- The fetch reads the instruction's bytes from the lowest address up, each after the draws of those before it (R57,
R102, R110). -/
theorem fetchInstr_readable {s : State} {i : Instr} {rest : List Byte}
    (h : decode [busValue s.pc s, busValue (s.pc + 1) (busAfterRead s.pc s),
      busValue (s.pc + 2) (busAfterRead (s.pc + 1) (busAfterRead s.pc s))] = .instr i rest)
    (hf : ∀ k, k < fetchCount i → prohibited (s.pc + BitVec.ofNat 16 k) = false) :
    fetchInstr s = .ok i (if fetchCount i = 1 then busAfterRead s.pc s
      else if fetchCount i = 2 then busAfterRead (s.pc + 1) (busAfterRead s.pc s)
      else busAfterRead (s.pc + 2) (busAfterRead (s.pc + 1) (busAfterRead s.pc s))) := by
  have hpos : 0 < fetchCount i := by
    unfold fetchCount
    split
    · exact Nat.one_pos
    · cases i <;> exact Nat.succ_pos _
  have f0 : prohibited (s.pc + 0#16) = false := hf 0 hpos
  rw [BitVec.add_zero] at f0
  have f1 : 1 < fetchCount i → prohibited (s.pc + 1) = false := hf 1
  have f2 : 2 < fetchCount i → prohibited (s.pc + 2) = false := hf 2
  have hs := entryOf_agrees (busValue s.pc s)
  unfold fetchInstr
  rw [fetchByte_ok f0, Res.bind_ok]
  simp only [decode] at h
  generalize entryOf (busValue s.pc s) = entry at h hs ⊢
  cases entry with
  | op j =>
    cases h
    rw [if_pos (show fetchCount i = 1 from fetchCount_eq hs.1 hs.2)]
  | opSkip j =>
    cases h
    rw [if_pos (by rw [fetchCount, if_pos hs.1])]
  | imm8 mk =>
    cases h
    have hl : _ = 2 := fetchCount_eq (hs (busValue (s.pc + 1) (busAfterRead s.pc s))).1 (hs _).2
    rw [if_neg (by omega), if_pos hl]
    show (fetchByte (s.pc + 1) (s.pc + 1) _).bind _ = _
    rw [fetchByte_ok (f1 (by omega))]
    rfl
  | imm16 mk =>
    cases h
    have hl : _ = 3 := fetchCount_eq (hs (joinBytes (busValue (s.pc + 2) (busAfterRead (s.pc + 1) (busAfterRead s.pc s)))
      (busValue (s.pc + 1) (busAfterRead s.pc s)))).1 (hs _).2
    rw [if_neg (by omega), if_neg (by omega)]
    show (fetchByte (s.pc + 1) (s.pc + 1) _).bind _ = _
    rw [fetchByte_ok (f1 (by omega)), Res.bind_ok, fetchByte_ok (f2 (by omega))]
    rfl
  | cbPrefix =>
    cases h
    have hl : _ = 2 := fetchCount_eq (cbEntry_agrees (busValue (s.pc + 1) (busAfterRead s.pc s))).1 (cbEntry_agrees _).2
    rw [if_neg (by omega), if_pos hl]
    show (fetchByte (s.pc + 1) (s.pc + 1) _).bind _ = _
    rw [fetchByte_ok (f1 (by omega))]
    rfl

end Machine

end Sys2Proof
end

