-- ==== Sys2Proof/Laws/Keeps.lean ====
section
/-! SUPPORT. What a step can do, said once: an instruction either ends with PC, the tick and the count, in a state that
the primitive changes led to, or faults in such a state. So a property that the primitive changes keep holds there. -/

namespace Sys2Proof.Machine

/-- The primitive state changes all keep P: registers, SP, PC, IME and status; F with its low nibble cleared; a draw
of `ExtRead`; a Bus write. -/
structure Keeps (P : State → Prop) : Prop where
  gpr : ∀ (s : State) (a b c d e h l : Byte) (sp pc : Word) (ime : Bool) (st : Status), P s →
    P { s with a := a, b := b, c := c, d := d, e := e, h := h, l := l, sp := sp, pc := pc, ime := ime, status := st }
  flags : ∀ (s : State) (v : Byte), P s → P { s with f := v &&& 0xF0#8 }
  draw : ∀ (s : State) (n : Nat), P s → P { s with extReads := n }
  store : ∀ (s : State) (addr : Word) (v : Byte), prohibited addr = false → P s → P (busStore addr v s)

/-- A count of the cycle table of cfg, whose default is between 4 and 24 (spec/70_reset_and_hazards.md R355). -/
def IsCount (cfg : Config) (c : Nat) : Prop :=
  ∃ code taken dflt, c = cycleCount cfg code taken dflt ∧ 4 ≤ dflt ∧ dflt ≤ 24

theorem isCount_cycles (s : State) (code : Nat) {d : Nat} (lo : 4 ≤ d := by decide) (hi : d ≤ 24 := by decide) :
    IsCount s.cfg (s.cycles code d) := ⟨code, true, d, rfl, lo, hi⟩

theorem isCount_notTaken (s : State) (code : Nat) {d : Nat} (lo : 4 ≤ d := by decide) (hi : d ≤ 24 := by decide) :
    IsCount s.cfg (s.cyclesNotTaken code d) := ⟨code, false, d, rfl, lo, hi⟩

theorem isCount_r8 (s : State) (code : Nat) (o : R8) {x y : Nat} (hx : 4 ≤ x ∧ x ≤ 24 := by decide)
    (hy : 4 ≤ y ∧ y ≤ 24 := by decide) : IsCount s.cfg (s.cycles code (r8Cycles o x y)) := by
  cases o with
  | reg r => exact isCount_cycles s code hx.1 hx.2
  | indHL => exact isCount_cycles s code hy.1 hy.2

/-- With the default table every count is between 4 and 24. -/
theorem IsCount.default {cfg : Config} {c : Nat} (h : IsCount cfg c) (hc : cfg.cycles = []) : 4 ≤ c ∧ c ≤ 24 := by
  obtain ⟨code, taken, d, rfl, lo, hi⟩ := h
  rw [cycleCount_default hc]
  exact ⟨lo, hi⟩

/-- The tick keeps P too. -/
def KeptByTick (P : State → Prop) : Prop :=
  ∀ (s : State) (k : Nat), P s → P { s with timer := s.timer.tick k, elapsed := s.elapsed + k }

/-- An outcome is the end of an instruction after a state with P, with a count of the table of cfg, or a fault that
leaves a state with P. -/
inductive EndsIn (cfg : Config) (P : State → Prop) : Out → Prop
  | finish (u : State) (p : Word) (c : Nat) (h : P u) (hc : IsCount cfg c) : EndsIn cfg P (finish p c u)
  | fault (e : Fault) (h : P e.final) : EndsIn cfg P (.fault e)

/-- P holds of the state an operation ends in. -/
def ResHolds {α : Type} (P : State → Prop) : Res α → Prop
  | .ok _ t => P t
  | .fault e => P e.final

theorem ResHolds.andThen {cfg : Config} {α : Type} {P : State → Prop} {r : Res α} {k : α → State → Out} (hr : ResHolds P r)
    (hk : ∀ x t, P t → EndsIn cfg P (k x t)) : EndsIn cfg P (r.andThen k) := by
  cases r with
  | ok x t => exact hk x t hr
  | fault e => exact .fault e hr

theorem ResHolds.bind {α β : Type} {P : State → Prop} {r : Res α} {k : α → State → Res β} (hr : ResHolds P r)
    (hk : ∀ x t, P t → ResHolds P (k x t)) : ResHolds P (r.bind k) := by
  cases r with
  | ok x t => exact hk x t hr
  | fault e => exact hr

namespace Keeps

variable {P : State → Prop} (k : Keeps P)

include k

theorem pc {s : State} (h : P s) (v : Word) : P { s with pc := v } :=
  k.gpr s s.a s.b s.c s.d s.e s.h s.l s.sp v s.ime s.status h

theorem sp {s : State} (h : P s) (v : Word) : P { s with sp := v } :=
  k.gpr s s.a s.b s.c s.d s.e s.h s.l v s.pc s.ime s.status h

theorem ime {s : State} (h : P s) (v : Bool) : P { s with ime := v } :=
  k.gpr s s.a s.b s.c s.d s.e s.h s.l s.sp s.pc v s.status h

theorem status {s : State} (h : P s) (v : Status) : P { s with status := v } :=
  k.gpr s s.a s.b s.c s.d s.e s.h s.l s.sp s.pc s.ime v h

theorem setReg {s : State} (h : P s) (r : Reg8) (v : Byte) : P (s.setReg r v) := by
  cases r with
  | b => exact k.gpr s s.a v s.c s.d s.e s.h s.l s.sp s.pc s.ime s.status h
  | c => exact k.gpr s s.a s.b v s.d s.e s.h s.l s.sp s.pc s.ime s.status h
  | d => exact k.gpr s s.a s.b s.c v s.e s.h s.l s.sp s.pc s.ime s.status h
  | e => exact k.gpr s s.a s.b s.c s.d v s.h s.l s.sp s.pc s.ime s.status h
  | h => exact k.gpr s s.a s.b s.c s.d s.e v s.l s.sp s.pc s.ime s.status h
  | l => exact k.gpr s s.a s.b s.c s.d s.e s.h v s.sp s.pc s.ime s.status h
  | a => exact k.gpr s v s.b s.c s.d s.e s.h s.l s.sp s.pc s.ime s.status h

theorem setBC {s : State} (h : P s) (v : Word) : P (s.setBC v) :=
  k.gpr s s.a (hiByte v) (loByte v) s.d s.e s.h s.l s.sp s.pc s.ime s.status h

theorem setDE {s : State} (h : P s) (v : Word) : P (s.setDE v) :=
  k.gpr s s.a s.b s.c (hiByte v) (loByte v) s.h s.l s.sp s.pc s.ime s.status h

theorem setHL {s : State} (h : P s) (v : Word) : P (s.setHL v) :=
  k.gpr s s.a s.b s.c s.d s.e (hiByte v) (loByte v) s.sp s.pc s.ime s.status h

theorem setAF {s : State} (h : P s) (v : Word) : P (s.setAF v) :=
  k.flags _ (loByte v) (k.gpr s (hiByte v) s.b s.c s.d s.e s.h s.l s.sp s.pc s.ime s.status h)

theorem setPair {s : State} (h : P s) (p : Pair) (v : Word) : P (s.setPair p v) := by
  cases p with
  | bc => exact k.setBC h v
  | de => exact k.setDE h v
  | hl => exact k.setHL h v
  | sp => exact k.sp h v

theorem setStackPair {s : State} (h : P s) (p : StackPair) (v : Word) : P (s.setStackPair p v) := by
  cases p with
  | bc => exact k.setBC h v
  | de => exact k.setDE h v
  | hl => exact k.setHL h v
  | af => exact k.setAF h v

theorem setFlags {s : State} (h : P s) (z n hf cf : Bool) : P (s.setFlags z n hf cf) := by
  have : packFlags z n hf cf = packFlags z n hf cf &&& 0xF0#8 := by
    cases z <;> cases n <;> cases hf <;> cases cf <;> rfl
  unfold State.setFlags
  rw [this]
  exact k.flags s _ h

theorem aluA {s : State} (h : P s) (op : AluOp) (v : Byte) : P (Machine.aluA op v s) := by
  cases op <;> exact k.setFlags (k.setReg h .a _) _ _ _ _

theorem fetched {s : State} (h : P s) (n : Word) : P (s.fetched n) := k.pc h _

omit k in
theorem finish {cfg : Config} {s : State} (h : P s) (p : Word) {c : Nat} (hc : IsCount cfg c) :
    EndsIn cfg P (finish p c s) := .finish s p c h hc

theorem read {s : State} (h : P s) (addr : Word) : P (busAfterRead addr s) := by
  unfold busAfterRead
  split
  · exact k.draw s _ h
  · exact h

theorem raise {s : State} (h : P s) (i : FaultInfo) : P (raise i s).final := by
  rw [raise_final]
  exact k.status h _

theorem readByte {s : State} (h : P s) (addr : Word) : ResHolds P (readByte addr s) := by
  unfold Machine.readByte
  split
  · exact k.raise h _
  · exact k.read h addr

theorem writeByte {s : State} (h : P s) (addr : Word) (v : Byte) : ResHolds P (writeByte addr v s) := by
  unfold Machine.writeByte
  split
  · exact k.raise h _
  · rename_i hp
    exact k.store s addr v (by simpa using hp) h

theorem readWord {s : State} (h : P s) (addr : Word) : ResHolds P (readWord addr s) :=
  (k.readByte h addr).bind fun _ _ h1 => (k.readByte h1 _).bind fun _ _ h2 => h2

theorem writeWord {s : State} (h : P s) (addr v : Word) : ResHolds P (writeWord addr v s) :=
  (k.writeByte h addr _).bind fun _ _ h1 => k.writeByte h1 _ _

theorem moveSP {s : State} (h : P s) (v : Word) : ResHolds P (moveSP v s) := by
  unfold Machine.moveSP
  split
  · exact k.sp h v
  · exact k.raise (k.sp h v) _

theorem push16 {s : State} (h : P s) (v : Word) : ResHolds P (push16 v s) :=
  (k.moveSP h _).bind fun _ _ h1 => k.writeWord h1 _ _

theorem pop16 {s : State} (h : P s) : ResHolds P (pop16 s) :=
  (k.moveSP h _).bind fun _ _ h1 => k.readWord h1 _

theorem readR8 {s : State} (h : P s) (o : R8) : ResHolds P (readR8 o s) := by
  cases o with
  | reg r => exact h
  | indHL => exact k.readByte h _

theorem writeR8 {s : State} (h : P s) (o : R8) (v : Byte) : ResHolds P (writeR8 o v s) := by
  cases o with
  | reg r => exact k.setReg h r v
  | indHL => exact k.writeByte h _ v

/-- A one-byte load, then a register update. -/
theorem load {s : State} (h : P s) (addr : Word) {g : Byte → State → Out} (hg : ∀ v t, P t → EndsIn s.cfg P (g v t)) :
    EndsIn s.cfg P ((Machine.readByte addr (s.fetched 1)).andThen g) :=
  (k.readByte (k.fetched h 1) addr).andThen hg

/-- A one-byte store, then a register update. -/
theorem store1 {s : State} (h : P s) (addr : Word) (v : Byte) {g : Unit → State → Out}
    (hg : ∀ u t, P t → EndsIn s.cfg P (g u t)) : EndsIn s.cfg P ((Machine.writeByte addr v (s.fetched 1)).andThen g) :=
  (k.writeByte (k.fetched h 1) addr v).andThen hg

theorem shape {s : State} (h : P s) (sh : Shape) : EndsIn s.cfg P (runShape s sh) := by
  have h1 := k.fetched h 1
  have h2 := k.fetched h 2
  cases sh with
  | ldRegReg dst r => exact Keeps.finish (k.setReg h _ _) _ (isCount_cycles s _)
  | ldRegInd dst => exact k.load h _ fun _ _ ht => Keeps.finish (k.setReg ht _ _) _ (isCount_cycles s _)
  | ldIndReg r => exact k.store1 h _ _ fun _ _ ht => Keeps.finish ht _ (isCount_cycles s _)
  | ldRegImm dst n => exact Keeps.finish (k.setReg h _ _) _ (isCount_cycles s _)
  | ldIndImm n => exact k.store1 h _ _ fun _ _ ht => Keeps.finish ht _ (isCount_cycles s _)
  | ldAPair p => exact k.load h _ fun _ _ ht => Keeps.finish (k.setReg ht _ _) _ (isCount_cycles s _)
  | ldPairA p => exact k.store1 h _ _ fun _ _ ht => Keeps.finish ht _ (isCount_cycles s _)
  | ldAAbs n => exact k.load h _ fun _ _ ht => Keeps.finish (k.setReg ht _ _) _ (isCount_cycles s _)
  | ldAbsA n => exact k.store1 h _ _ fun _ _ ht => Keeps.finish ht _ (isCount_cycles s _)
  | ldhA n => exact k.load h _ fun _ _ ht => Keeps.finish (k.setReg ht _ _) _ (isCount_cycles s _)
  | ldhStA n => exact k.store1 h _ _ fun _ _ ht => Keeps.finish ht _ (isCount_cycles s _)
  | ldAC => exact k.load h _ fun _ _ ht => Keeps.finish (k.setReg ht _ _) _ (isCount_cycles s _)
  | ldCA => exact k.store1 h _ _ fun _ _ ht => Keeps.finish ht _ (isCount_cycles s _)
  | ldIncA => exact k.store1 h _ _ fun _ _ ht => Keeps.finish (k.setHL ht _) _ (isCount_cycles s _)
  | ldDecA => exact k.store1 h _ _ fun _ _ ht => Keeps.finish (k.setHL ht _) _ (isCount_cycles s _)
  | ldAInc => exact k.load h _ fun _ _ ht => Keeps.finish (k.setHL (k.setReg ht _ _) _) _ (isCount_cycles s _)
  | ldADec => exact k.load h _ fun _ _ ht => Keeps.finish (k.setHL (k.setReg ht _ _) _) _ (isCount_cycles s _)
  | ldPairImm p n => exact Keeps.finish (k.setPair h _ _) _ (isCount_cycles s _)
  | ldAbsSP n => exact (k.writeWord h1 _ _).andThen fun _ _ ht => Keeps.finish ht _ (isCount_cycles s _)
  | ldSPHL => exact Keeps.finish (k.sp h _) _ (isCount_cycles s _)
  | ldHLSP e => exact Keeps.finish (k.setFlags (k.setHL h _) _ _ _ _) _ (isCount_cycles s _)
  | aluR8 op o =>
    exact (k.readR8 h1 o).andThen fun _ _ ht =>
        Keeps.finish (k.aluA ht op _) _ (isCount_r8 s _ o)
  | aluImm op n => exact Keeps.finish (k.aluA h op n) _ (isCount_cycles s _)
  | incReg r => exact Keeps.finish (k.setFlags (k.setReg h _ _) _ _ _ _) _ (isCount_cycles s _)
  | decReg r => exact Keeps.finish (k.setFlags (k.setReg h _ _) _ _ _ _) _ (isCount_cycles s _)
  | incInd =>
    exact k.load h _ fun _ _ ht => (k.writeByte ht _ _).andThen fun _ _ hu => Keeps.finish (k.setFlags hu _ _ _ _) _ (isCount_cycles s _)
  | decInd =>
    exact k.load h _ fun _ _ ht => (k.writeByte ht _ _).andThen fun _ _ hu => Keeps.finish (k.setFlags hu _ _ _ _) _ (isCount_cycles s _)
  | incPair p => exact Keeps.finish (k.setPair h _ _) _ (isCount_cycles s _)
  | decPair p => exact Keeps.finish (k.setPair h _ _) _ (isCount_cycles s _)
  | addHLPair p => exact Keeps.finish (k.setFlags (k.setHL h _) _ _ _ _) _ (isCount_cycles s _)
  | addSP e => exact Keeps.finish (k.setFlags (k.sp h _) _ _ _ _) _ (isCount_cycles s _)
  | rotA op => exact Keeps.finish (k.setFlags (k.setReg h _ _) _ _ _ _) _ (isCount_cycles s _)
  | rotR8 op o =>
    exact (k.readR8 h2 o).andThen fun _ _ ht =>
      (k.writeR8 ht o _).andThen fun _ _ hu =>
        Keeps.finish (k.setFlags hu _ _ _ _) _ (isCount_r8 s _ o)
  | bitR8 y o =>
    exact (k.readR8 h2 o).andThen fun _ _ ht =>
        Keeps.finish (k.setFlags ht _ _ _ _) _ (isCount_r8 s _ o)
  | resR8 y o =>
    exact (k.readR8 h2 o).andThen fun _ _ ht =>
      (k.writeR8 ht o _).andThen fun _ _ hu =>
        Keeps.finish hu _ (isCount_r8 s _ o)
  | setR8 y o =>
    exact (k.readR8 h2 o).andThen fun _ _ ht =>
      (k.writeR8 ht o _).andThen fun _ _ hu =>
        Keeps.finish hu _ (isCount_r8 s _ o)
  | jp n => exact Keeps.finish h _ (isCount_cycles s _)
  | jpHL => exact Keeps.finish h _ (isCount_cycles s _)
  | jpCond cc n =>
    show EndsIn s.cfg P (Machine.jpCond cc n s)
    unfold Machine.jpCond
    split
    · exact Keeps.finish h _ (isCount_cycles s _)
    · exact Keeps.finish h _ (isCount_notTaken s _)
  | jr e => exact Keeps.finish h _ (isCount_cycles s _)
  | jrCond cc e =>
    show EndsIn s.cfg P (Machine.jrCond cc e s)
    unfold Machine.jrCond
    split
    · exact Keeps.finish h _ (isCount_cycles s _)
    · exact Keeps.finish h _ (isCount_notTaken s _)
  | call n => exact (k.push16 h1 _).andThen fun _ _ ht => Keeps.finish ht _ (isCount_cycles s _)
  | callCond cc n =>
    show EndsIn s.cfg P (Machine.callCond cc n s)
    unfold Machine.callCond
    split
    · exact (k.push16 h1 _).andThen fun _ _ ht => Keeps.finish ht _ (isCount_cycles s _)
    · exact Keeps.finish h _ (isCount_notTaken s _)
  | ret => exact (k.pop16 h1).andThen fun _ _ ht => Keeps.finish ht _ (isCount_cycles s _)
  | retCond cc =>
    show EndsIn s.cfg P (Machine.retCond cc s)
    unfold Machine.retCond
    split
    · exact (k.pop16 h1).andThen fun _ _ ht => Keeps.finish ht _ (isCount_cycles s _)
    · exact Keeps.finish h _ (isCount_notTaken s _)
  | reti => exact (k.pop16 h1).andThen fun _ _ ht => Keeps.finish (k.ime ht _) _ (isCount_cycles s _)
  | pushPair p => exact (k.push16 h1 _).andThen fun _ _ ht => Keeps.finish ht _ (isCount_cycles s _)
  | popPair p => exact (k.pop16 h1).andThen fun _ _ ht => Keeps.finish (k.setStackPair ht _ _) _ (isCount_cycles s _)
  | restart y => exact (k.push16 h1 _).andThen fun _ _ ht => Keeps.finish ht _ (isCount_cycles s _)
  | nop => exact Keeps.finish h _ (isCount_cycles s _)
  | daa => exact Keeps.finish (k.setFlags (k.setReg h _ _) _ _ _ _) _ (isCount_cycles s _)
  | cpl => exact Keeps.finish (k.setFlags (k.setReg h _ _) _ _ _ _) _ (isCount_cycles s _)
  | scf => exact Keeps.finish (k.setFlags h _ _ _ _) _ (isCount_cycles s _)
  | ccf => exact Keeps.finish (k.setFlags h _ _ _ _) _ (isCount_cycles s _)
  | di => exact Keeps.finish (k.ime h _) _ (isCount_cycles s _)
  | ei => exact Keeps.finish (k.ime h _) _ (isCount_cycles s _)
  | halt => exact Keeps.finish (k.status h _) _ (isCount_cycles s _)
  | stop => exact Keeps.finish (k.status h _) _ (isCount_cycles s _)
  | illegalCode code => exact .fault _ (k.raise h1 _)

/-- Every instruction keeps P. -/
theorem exec {s : State} (h : P s) (i : Instr) : EndsIn s.cfg P (exec i s) := by
  rw [exec_eq_runShape]
  exact k.shape h i.shape

theorem fetchByte {s : State} (h : P s) (addr p : Word) : ResHolds P (fetchByte addr p s) := by
  unfold Machine.fetchByte
  split
  · exact k.raise (k.pc h p) _
  · exact k.read h addr

theorem fetchInstr {s : State} (h : P s) : ResHolds P (fetchInstr s) := by
  refine (k.fetchByte h _ _).bind fun b0 s1 h1 => ?_
  split
  · exact h1
  · exact h1
  · exact (k.fetchByte h1 _ _).bind fun _ _ h2 => h2
  · exact (k.fetchByte h1 _ _).bind fun _ _ h2 => (k.fetchByte h2 _ _).bind fun _ _ h3 => h3
  · exact (k.fetchByte h1 _ _).bind fun _ _ h2 => h2

omit k in
/-- The parameters never change. -/
theorem parameters (cfg : Config) : Keeps fun u => u.cfg = cfg where
  gpr := fun _ _ _ _ _ _ _ _ _ _ _ _ h => h
  flags := fun _ _ h => h
  draw := fun _ _ h => h
  store := fun u addr v _ h => (busStore_cfg addr v u).trans h

/-- Every step of a running machine ends so. -/
theorem step {s : State} (h : P s) (hr : s.status = .running) : EndsIn s.cfg P (step s) := by
  have hf := k.fetchInstr h
  have hc := (parameters s.cfg).fetchInstr (s := s) rfl
  unfold Machine.step
  rw [hr]
  cases hi : Machine.fetchInstr s with
  | ok i t =>
    rw [hi] at hf hc
    exact (show t.cfg = s.cfg from hc) ▸ k.exec hf i
  | fault e =>
    rw [hi] at hf
    exact .fault e hf

end Keeps

/-- What ends in a next state has P there, if the tick and PC keep P. -/
theorem EndsIn.next {cfg : Config} {P : State → Prop} (k : Keeps P) (ht : KeptByTick P) {o : Out} (h : EndsIn cfg P o) {t : State}
    (ho : o = .next t) : P t := by
  cases h with
  | finish u p c hu hc =>
    cases ho
    exact ht _ c (k.pc hu p)
  | fault e he => cases ho

theorem EndsIn.final {cfg : Config} {P : State → Prop} {o : Out} (h : EndsIn cfg P o) {e : Fault} (ho : o = .fault e) : P e.final := by
  cases h with
  | finish u p c hu hc => cases ho
  | fault e' he =>
    cases ho
    exact he

/-- A property kept by the primitive changes and by the tick is kept by every step, in the next state and in the state
a fault leaves. -/
theorem step_keeps {P : State → Prop} (k : Keeps P) (ht : KeptByTick P) {s : State} (h : P s) :
    (∀ t, step s = .next t → P t) ∧ (∀ e, step s = .fault e → P e.final) := by
  cases hs : s.status with
  | running => exact ⟨fun t => (k.step h hs).next k ht, fun e => (k.step h hs).final⟩
  | stopped r =>
    have : step s = .next s := by rw [step, hs]
    rw [this]
    exact ⟨fun t e => by cases e; exact h, fun e he => by cases he⟩
  | faulted f =>
    have : step s = .next s := by rw [step, hs]
    rw [this]
    exact ⟨fun t e => by cases e; exact h, fun e he => by cases he⟩

/-- Every instruction that ends in a next state has counted an entry of the cycle table. -/
theorem exec_elapsed {i : Instr} {s t : State} (h : exec i s = .next t) :
    ∃ c, IsCount s.cfg c ∧ t.elapsed = s.elapsed + c := by
  have k : Keeps fun u => u.elapsed = s.elapsed :=
    { gpr := fun _ _ _ _ _ _ _ _ _ _ _ _ h => h
      flags := fun _ _ h => h
      draw := fun _ _ h => h
      store := fun u addr v _ h => by rw [busStore_elapsed]; exact h }
  have hk := k.exec rfl i
  rw [h] at hk
  generalize ho : (Host.Outcome.next t : Out) = o at hk
  cases hk with
  | finish u p c hu hc =>
    cases ho
    exact ⟨c, hc, by rw [State.retired_elapsed, hu]⟩
  | fault e he => cases ho

end Sys2Proof.Machine
end

