-- ==== Sys2Proof/Laws/Reach.lean ====
section
/-! SUPPORT. Which bytes a Bus write can change, and what the tick leaves of them. -/

namespace Sys2Proof.Machine

theorem steady_region {x : Word} (h : steady x = true) : external x = false ∧ prohibited x = false := by
  simp only [steady, Bool.and_eq_true, Bool.not_eq_true'] at h
  exact h.1.1

/-- A steady timer register is TMA or TAC. -/
theorem steady_timer {x : Word} (h : steady x = true) (hr : regionOf x = .timer) : x = 0xFF06#16 ∨ x = 0xFF07#16 := by
  have h1 := regionOf_timer.1 hr
  simp only [steady, Bool.and_eq_true, bne_iff_ne] at h
  obtain ⟨⟨-, h2⟩, h3⟩ := h
  bv_omega

/-- What a steady byte's value is a function of. -/
theorem busValue_congr {x : Word} {s t : State} (h : steady x = true) (hw : t.wram = s.wram) (hh : t.hram = s.hram)
    (hi : t.ie = s.ie) (hc : t.cart = s.cart) (h6 : t.timer.tma = s.timer.tma) (h7 : t.timer.tac = s.timer.tac) :
    busValue x t = busValue x s := by
  obtain ⟨he, hp⟩ := steady_region h
  unfold busValue
  split
  · rw [hc]
  · rw [hc]
  · rw [hw]
  · rename_i hr
    rcases steady_timer h hr with rfl | rfl
    · exact h6
    · exact h7
  · rw [hh]
  · exact hi
  all_goals
    rename_i hr
    simp [external, prohibited, hr] at he hp

theorem toNat_ne {x a : Word} (h : x ≠ a) : x.toNat ≠ a.toNat := fun hn => h (BitVec.eq_of_toNat_eq hn)

/-- The fixed ROM region does not depend on the controller (R63, R70, R77). -/
theorem Cart.readRom_fixed {x : Word} (h : x.toNat < 0x4000) (k : Cart) (c : Controller) :
    ({ k with ctrl := c } : Cart).readRom x = k.readRom x := by
  rw [Cart.readRom, Cart.romOffset, if_pos h, Cart.readRom, Cart.romOffset, if_pos h]
  rfl

/-- A write to cartridge RAM changes the cell that its address names, and no other (R71, R78). -/
theorem Cart.readRam_writeRam_other {x a : Word} {v : Byte} {k : Cart} (h : k.ramOffset x ≠ k.ramOffset a) :
    (k.writeRam a v).readRam x = k.readRam x := by
  unfold Cart.writeRam
  split
  · unfold Cart.cramPut
    split
    · show (if k.ctrl.ramEnabled = true then _ else _) = if k.ctrl.ramEnabled = true then _ else _
      congr 2
      show (if k.ramOffset x < k.ramSize then Memory.read (Memory.write k.cram _ _) (k.ramOffset x) else _) = _
      rw [Memory.read_write_other _ _ h]
      rfl
    · rfl
  · rfl

theorem Cart.readRom_writeRam (x a : Word) (v : Byte) (k : Cart) : (k.writeRam a v).readRom x = k.readRom x := by
  unfold Cart.writeRam
  split
  · unfold Cart.cramPut
    split <;> rfl
  · rfl

/-- A Bus write changes no steady byte that it does not reach. -/
theorem busValue_busStore_other {a x : Word} {s : State} (hs : steady x = true) (hr : storeReaches s a x = false)
    (v : Byte) : busValue x (busStore a v s) = busValue x s := by
  simp only [storeReaches, Bool.or_eq_false_iff, beq_eq_false_iff_ne] at hr
  obtain ⟨⟨hne, hram⟩, hrom⟩ := hr
  cases ha : regionOf a with
  | rom =>
    have e : busStore a v s = { s with cart := s.cart.writeRom s.cfg a v } := by simp only [busStore, ha]
    simp only [ha, beq_self_eq_true, Bool.true_and, Bool.or_eq_false_iff, Bool.and_eq_false_iff, beq_eq_false_iff_ne,
      decide_eq_false_iff_not] at hrom
    rw [e]
    unfold busValue
    split
    case h_1 hx => exact Cart.readRom_fixed (Nat.lt_of_not_le (hrom.2.resolve_left (fun h => h hx))) s.cart _
    case h_2 hx => exact absurd hx hrom.1
    all_goals rfl
  | cartRam =>
    have e : busStore a v s = { s with cart := s.cart.writeRam a v } := by simp only [busStore, ha]
    rw [e]
    unfold busValue
    split
    case h_1 hx => exact Cart.readRom_writeRam x a v s.cart
    case h_2 hx =>
      refine Cart.readRam_writeRam_other ?_
      simpa only [ha, hx, beq_self_eq_true, Bool.true_and, beq_eq_false_iff_ne] using hram
    all_goals rfl
  | workRam =>
    have e : ∃ m : Memory, busStore a v s = { s with wram := m } ∧
        (regionOf x = .workRam → Memory.read m (x.toNat - 0xC000) = Memory.read s.wram (x.toNat - 0xC000)) := by
      refine ⟨_, by simp only [busStore, ha]; rfl, fun hx => ?_⟩
      have := toNat_ne hne
      have := regionOf_workRam.1 hx
      have := regionOf_workRam.1 ha
      exact Memory.read_write_other _ _ (by omega)
    obtain ⟨m, e, hm⟩ := e
    rw [e]
    unfold busValue
    split <;> first | exact hm ‹_› | rfl
  | highRam =>
    have e : ∃ m : Memory, busStore a v s = { s with hram := m } ∧
        (regionOf x = .highRam → Memory.read m (x.toNat - 0xFF80) = Memory.read s.hram (x.toNat - 0xFF80)) := by
      refine ⟨_, by simp only [busStore, ha]; rfl, fun hx => ?_⟩
      have := toNat_ne hne
      have := regionOf_highRam.1 hx
      have := regionOf_highRam.1 ha
      exact Memory.read_write_other _ _ (by omega)
    obtain ⟨m, e, hm⟩ := e
    rw [e]
    unfold busValue
    split <;> first | exact hm ‹_› | rfl
  | timer =>
    have e : busStore a v s = { s with timer := s.timer.writeReg s.cfg a v } := by simp only [busStore, ha]
    rw [e]
    unfold busValue
    split <;> try rfl
    rename_i hx
    unfold Timer.writeReg
    rcases steady_timer hs hx with rfl | rfl <;> split
    · split <;> rfl
    · split
      · rfl
      · rw [if_neg (fun h => hne h.symm)]
        rfl
    · split <;> rfl
    · split
      · rfl
      · split
        · rfl
        · exfalso
          have := regionOf_timer.1 ha
          bv_omega
  | interruptEnable =>
    have e : busStore a v s = { s with ie := v } := by simp only [busStore, ha]
    rw [e]
    unfold busValue
    split <;> try rfl
    rename_i hx
    have := toNat_ne hne
    have := regionOf_interruptEnable.1 hx
    have := regionOf_interruptEnable.1 ha
    omega
  | videoRam | spriteAttr | ioExternal =>
    have e : busStore a v s = { s with extWrites := ⟨a, v⟩ :: s.extWrites } := by simp only [busStore, ha]
    rw [e]
    exact busValue_congr hs rfl rfl rfl rfl rfl rfl
  | echo | unusable =>
    have e : busStore a v s = s := by simp only [busStore, ha]
    rw [e]

/-- Ending an instruction changes no steady byte (R311). -/
theorem busValue_retired {x : Word} (h : steady x = true) (p : Word) (c : Nat) (s : State) :
    busValue x (s.retired p c) = busValue x s :=
  have ht := s.timer.tick_frame c
  busValue_congr h rfl rfl rfl rfl ht.1 ht.2.1

end Sys2Proof.Machine
end

