-- ==== Sys2Proof/Tests/Slice0.lean ====
section
/-! SUPPORT. Tests of the model. The decode tests write every row's word out from the `encoding` column of
spec/opcode_table.json, with operand byte 9A, displacement FC and 16-bit operand 1234; the step tests take what they
expect from the examples of the rules and from spec/95_test_vectors.md; the witnesses show states and operands that
meet the hypotheses of each statement in Certificates/Slice0/Obligations.lean, at the ends of its ranges. -/

open Sys2Proof Sys2Proof.Machine

-- One theorem after another: each waits for the kernel, and many waiting at once would hold a thread each.
set_option Elab.async false

/-! ## Well-formedness: a term that each check refuses -/

theorem test_illegal_D3_is_ill_formed : Instr.illegal_D3.wellFormed = false := by decide

theorem test_illegal_DB_is_ill_formed : Instr.illegal_DB.wellFormed = false := by decide

theorem test_illegal_DD_is_ill_formed : Instr.illegal_DD.wellFormed = false := by decide

theorem test_illegal_E3_is_ill_formed : Instr.illegal_E3.wellFormed = false := by decide

theorem test_illegal_E4_is_ill_formed : Instr.illegal_E4.wellFormed = false := by decide

theorem test_illegal_EB_is_ill_formed : Instr.illegal_EB.wellFormed = false := by decide

theorem test_illegal_EC_is_ill_formed : Instr.illegal_EC.wellFormed = false := by decide

theorem test_illegal_ED_is_ill_formed : Instr.illegal_ED.wellFormed = false := by decide

theorem test_illegal_F4_is_ill_formed : Instr.illegal_F4.wellFormed = false := by decide

theorem test_illegal_FC_is_ill_formed : Instr.illegal_FC.wellFormed = false := by decide

theorem test_illegal_FD_is_ill_formed : Instr.illegal_FD.wellFormed = false := by decide

theorem test_nop_is_well_formed : Instr.nop.wellFormed = true := by decide

/-! ## Decoding: every row of the opcode table -/

/-- Rows 0 to 15 of the table. -/
def decodeRows00 : List (List Byte × Instr) :=
  [([0x00#8], .nop),
    ([0x01#8, 0x34#8, 0x12#8], .ld_BC_n16 0x1234),
    ([0x02#8], .ld_indBC_A),
    ([0x03#8], .inc_BC),
    ([0x04#8], .inc_B),
    ([0x05#8], .dec_B),
    ([0x06#8, 0x9A#8], .ld_B_n8 0x9A),
    ([0x07#8], .rlca),
    ([0x08#8, 0x34#8, 0x12#8], .ld_indN16_SP 0x1234),
    ([0x09#8], .add_HL_BC),
    ([0x0A#8], .ld_A_indBC),
    ([0x0B#8], .dec_BC),
    ([0x0C#8], .inc_C),
    ([0x0D#8], .dec_C),
    ([0x0E#8, 0x9A#8], .ld_C_n8 0x9A),
    ([0x0F#8], .rrca)]

theorem test_decode_rows_00 : ∀ p ∈ decodeRows00, decode p.1 = .instr p.2 [] := by decide

/-- Rows 16 to 31 of the table. -/
def decodeRows01 : List (List Byte × Instr) :=
  [([0x10#8, 0x00#8], .stop),
    ([0x11#8, 0x34#8, 0x12#8], .ld_DE_n16 0x1234),
    ([0x12#8], .ld_indDE_A),
    ([0x13#8], .inc_DE),
    ([0x14#8], .inc_D),
    ([0x15#8], .dec_D),
    ([0x16#8, 0x9A#8], .ld_D_n8 0x9A),
    ([0x17#8], .rla),
    ([0x18#8, 0xFC#8], .jr_e8 0xFC),
    ([0x19#8], .add_HL_DE),
    ([0x1A#8], .ld_A_indDE),
    ([0x1B#8], .dec_DE),
    ([0x1C#8], .inc_E),
    ([0x1D#8], .dec_E),
    ([0x1E#8, 0x9A#8], .ld_E_n8 0x9A),
    ([0x1F#8], .rra)]

theorem test_decode_rows_01 : ∀ p ∈ decodeRows01, decode p.1 = .instr p.2 [] := by decide

/-- Rows 32 to 47 of the table. -/
def decodeRows02 : List (List Byte × Instr) :=
  [([0x20#8, 0xFC#8], .jr_NZ_e8 0xFC),
    ([0x21#8, 0x34#8, 0x12#8], .ld_HL_n16 0x1234),
    ([0x22#8], .ld_indHLinc_A),
    ([0x23#8], .inc_HL),
    ([0x24#8], .inc_H),
    ([0x25#8], .dec_H),
    ([0x26#8, 0x9A#8], .ld_H_n8 0x9A),
    ([0x27#8], .daa),
    ([0x28#8, 0xFC#8], .jr_Z_e8 0xFC),
    ([0x29#8], .add_HL_HL),
    ([0x2A#8], .ld_A_indHLinc),
    ([0x2B#8], .dec_HL),
    ([0x2C#8], .inc_L),
    ([0x2D#8], .dec_L),
    ([0x2E#8, 0x9A#8], .ld_L_n8 0x9A),
    ([0x2F#8], .cpl)]

theorem test_decode_rows_02 : ∀ p ∈ decodeRows02, decode p.1 = .instr p.2 [] := by decide

/-- Rows 48 to 63 of the table. -/
def decodeRows03 : List (List Byte × Instr) :=
  [([0x30#8, 0xFC#8], .jr_NC_e8 0xFC),
    ([0x31#8, 0x34#8, 0x12#8], .ld_SP_n16 0x1234),
    ([0x32#8], .ld_indHLdec_A),
    ([0x33#8], .inc_SP),
    ([0x34#8], .inc_indHL),
    ([0x35#8], .dec_indHL),
    ([0x36#8, 0x9A#8], .ld_indHL_n8 0x9A),
    ([0x37#8], .scf),
    ([0x38#8, 0xFC#8], .jr_C_e8 0xFC),
    ([0x39#8], .add_HL_SP),
    ([0x3A#8], .ld_A_indHLdec),
    ([0x3B#8], .dec_SP),
    ([0x3C#8], .inc_A),
    ([0x3D#8], .dec_A),
    ([0x3E#8, 0x9A#8], .ld_A_n8 0x9A),
    ([0x3F#8], .ccf)]

theorem test_decode_rows_03 : ∀ p ∈ decodeRows03, decode p.1 = .instr p.2 [] := by decide

/-- Rows 64 to 79 of the table. -/
def decodeRows04 : List (List Byte × Instr) :=
  [([0x40#8], .ld_B_B),
    ([0x41#8], .ld_B_C),
    ([0x42#8], .ld_B_D),
    ([0x43#8], .ld_B_E),
    ([0x44#8], .ld_B_H),
    ([0x45#8], .ld_B_L),
    ([0x46#8], .ld_B_indHL),
    ([0x47#8], .ld_B_A),
    ([0x48#8], .ld_C_B),
    ([0x49#8], .ld_C_C),
    ([0x4A#8], .ld_C_D),
    ([0x4B#8], .ld_C_E),
    ([0x4C#8], .ld_C_H),
    ([0x4D#8], .ld_C_L),
    ([0x4E#8], .ld_C_indHL),
    ([0x4F#8], .ld_C_A)]

theorem test_decode_rows_04 : ∀ p ∈ decodeRows04, decode p.1 = .instr p.2 [] := by decide

/-- Rows 80 to 95 of the table. -/
def decodeRows05 : List (List Byte × Instr) :=
  [([0x50#8], .ld_D_B),
    ([0x51#8], .ld_D_C),
    ([0x52#8], .ld_D_D),
    ([0x53#8], .ld_D_E),
    ([0x54#8], .ld_D_H),
    ([0x55#8], .ld_D_L),
    ([0x56#8], .ld_D_indHL),
    ([0x57#8], .ld_D_A),
    ([0x58#8], .ld_E_B),
    ([0x59#8], .ld_E_C),
    ([0x5A#8], .ld_E_D),
    ([0x5B#8], .ld_E_E),
    ([0x5C#8], .ld_E_H),
    ([0x5D#8], .ld_E_L),
    ([0x5E#8], .ld_E_indHL),
    ([0x5F#8], .ld_E_A)]

theorem test_decode_rows_05 : ∀ p ∈ decodeRows05, decode p.1 = .instr p.2 [] := by decide

/-- Rows 96 to 111 of the table. -/
def decodeRows06 : List (List Byte × Instr) :=
  [([0x60#8], .ld_H_B),
    ([0x61#8], .ld_H_C),
    ([0x62#8], .ld_H_D),
    ([0x63#8], .ld_H_E),
    ([0x64#8], .ld_H_H),
    ([0x65#8], .ld_H_L),
    ([0x66#8], .ld_H_indHL),
    ([0x67#8], .ld_H_A),
    ([0x68#8], .ld_L_B),
    ([0x69#8], .ld_L_C),
    ([0x6A#8], .ld_L_D),
    ([0x6B#8], .ld_L_E),
    ([0x6C#8], .ld_L_H),
    ([0x6D#8], .ld_L_L),
    ([0x6E#8], .ld_L_indHL),
    ([0x6F#8], .ld_L_A)]

theorem test_decode_rows_06 : ∀ p ∈ decodeRows06, decode p.1 = .instr p.2 [] := by decide

/-- Rows 112 to 127 of the table. -/
def decodeRows07 : List (List Byte × Instr) :=
  [([0x70#8], .ld_indHL_B),
    ([0x71#8], .ld_indHL_C),
    ([0x72#8], .ld_indHL_D),
    ([0x73#8], .ld_indHL_E),
    ([0x74#8], .ld_indHL_H),
    ([0x75#8], .ld_indHL_L),
    ([0x76#8], .halt),
    ([0x77#8], .ld_indHL_A),
    ([0x78#8], .ld_A_B),
    ([0x79#8], .ld_A_C),
    ([0x7A#8], .ld_A_D),
    ([0x7B#8], .ld_A_E),
    ([0x7C#8], .ld_A_H),
    ([0x7D#8], .ld_A_L),
    ([0x7E#8], .ld_A_indHL),
    ([0x7F#8], .ld_A_A)]

theorem test_decode_rows_07 : ∀ p ∈ decodeRows07, decode p.1 = .instr p.2 [] := by decide

/-- Rows 128 to 143 of the table. -/
def decodeRows08 : List (List Byte × Instr) :=
  [([0x80#8], .add_A_B),
    ([0x81#8], .add_A_C),
    ([0x82#8], .add_A_D),
    ([0x83#8], .add_A_E),
    ([0x84#8], .add_A_H),
    ([0x85#8], .add_A_L),
    ([0x86#8], .add_A_indHL),
    ([0x87#8], .add_A_A),
    ([0x88#8], .adc_A_B),
    ([0x89#8], .adc_A_C),
    ([0x8A#8], .adc_A_D),
    ([0x8B#8], .adc_A_E),
    ([0x8C#8], .adc_A_H),
    ([0x8D#8], .adc_A_L),
    ([0x8E#8], .adc_A_indHL),
    ([0x8F#8], .adc_A_A)]

theorem test_decode_rows_08 : ∀ p ∈ decodeRows08, decode p.1 = .instr p.2 [] := by decide

/-- Rows 144 to 159 of the table. -/
def decodeRows09 : List (List Byte × Instr) :=
  [([0x90#8], .sub_B),
    ([0x91#8], .sub_C),
    ([0x92#8], .sub_D),
    ([0x93#8], .sub_E),
    ([0x94#8], .sub_H),
    ([0x95#8], .sub_L),
    ([0x96#8], .sub_indHL),
    ([0x97#8], .sub_A),
    ([0x98#8], .sbc_A_B),
    ([0x99#8], .sbc_A_C),
    ([0x9A#8], .sbc_A_D),
    ([0x9B#8], .sbc_A_E),
    ([0x9C#8], .sbc_A_H),
    ([0x9D#8], .sbc_A_L),
    ([0x9E#8], .sbc_A_indHL),
    ([0x9F#8], .sbc_A_A)]

theorem test_decode_rows_09 : ∀ p ∈ decodeRows09, decode p.1 = .instr p.2 [] := by decide

/-- Rows 160 to 175 of the table. -/
def decodeRows10 : List (List Byte × Instr) :=
  [([0xA0#8], .and_B),
    ([0xA1#8], .and_C),
    ([0xA2#8], .and_D),
    ([0xA3#8], .and_E),
    ([0xA4#8], .and_H),
    ([0xA5#8], .and_L),
    ([0xA6#8], .and_indHL),
    ([0xA7#8], .and_A),
    ([0xA8#8], .xor_B),
    ([0xA9#8], .xor_C),
    ([0xAA#8], .xor_D),
    ([0xAB#8], .xor_E),
    ([0xAC#8], .xor_H),
    ([0xAD#8], .xor_L),
    ([0xAE#8], .xor_indHL),
    ([0xAF#8], .xor_A)]

theorem test_decode_rows_10 : ∀ p ∈ decodeRows10, decode p.1 = .instr p.2 [] := by decide

/-- Rows 176 to 191 of the table. -/
def decodeRows11 : List (List Byte × Instr) :=
  [([0xB0#8], .or_B),
    ([0xB1#8], .or_C),
    ([0xB2#8], .or_D),
    ([0xB3#8], .or_E),
    ([0xB4#8], .or_H),
    ([0xB5#8], .or_L),
    ([0xB6#8], .or_indHL),
    ([0xB7#8], .or_A),
    ([0xB8#8], .cp_B),
    ([0xB9#8], .cp_C),
    ([0xBA#8], .cp_D),
    ([0xBB#8], .cp_E),
    ([0xBC#8], .cp_H),
    ([0xBD#8], .cp_L),
    ([0xBE#8], .cp_indHL),
    ([0xBF#8], .cp_A)]

theorem test_decode_rows_11 : ∀ p ∈ decodeRows11, decode p.1 = .instr p.2 [] := by decide

/-- Rows 192 to 207 of the table. -/
def decodeRows12 : List (List Byte × Instr) :=
  [([0xC0#8], .ret_NZ),
    ([0xC1#8], .pop_BC),
    ([0xC2#8, 0x34#8, 0x12#8], .jp_NZ_n16 0x1234),
    ([0xC3#8, 0x34#8, 0x12#8], .jp_n16 0x1234),
    ([0xC4#8, 0x34#8, 0x12#8], .call_NZ_n16 0x1234),
    ([0xC5#8], .push_BC),
    ([0xC6#8, 0x9A#8], .add_A_n8 0x9A),
    ([0xC7#8], .rst_00),
    ([0xC8#8], .ret_Z),
    ([0xC9#8], .ret),
    ([0xCA#8, 0x34#8, 0x12#8], .jp_Z_n16 0x1234),
    ([0xCC#8, 0x34#8, 0x12#8], .call_Z_n16 0x1234),
    ([0xCD#8, 0x34#8, 0x12#8], .call_n16 0x1234),
    ([0xCE#8, 0x9A#8], .adc_A_n8 0x9A),
    ([0xCF#8], .rst_08),
    ([0xD0#8], .ret_NC)]

theorem test_decode_rows_12 : ∀ p ∈ decodeRows12, decode p.1 = .instr p.2 [] := by decide

/-- Rows 208 to 223 of the table. -/
def decodeRows13 : List (List Byte × Instr) :=
  [([0xD1#8], .pop_DE),
    ([0xD2#8, 0x34#8, 0x12#8], .jp_NC_n16 0x1234),
    ([0xD4#8, 0x34#8, 0x12#8], .call_NC_n16 0x1234),
    ([0xD5#8], .push_DE),
    ([0xD6#8, 0x9A#8], .sub_n8 0x9A),
    ([0xD7#8], .rst_10),
    ([0xD8#8], .ret_C),
    ([0xD9#8], .reti),
    ([0xDA#8, 0x34#8, 0x12#8], .jp_C_n16 0x1234),
    ([0xDC#8, 0x34#8, 0x12#8], .call_C_n16 0x1234),
    ([0xDE#8, 0x9A#8], .sbc_A_n8 0x9A),
    ([0xDF#8], .rst_18),
    ([0xE0#8, 0x9A#8], .ldh_indN8_A 0x9A),
    ([0xE1#8], .pop_HL),
    ([0xE2#8], .ld_indC_A),
    ([0xE5#8], .push_HL)]

theorem test_decode_rows_13 : ∀ p ∈ decodeRows13, decode p.1 = .instr p.2 [] := by decide

/-- Rows 224 to 239 of the table. -/
def decodeRows14 : List (List Byte × Instr) :=
  [([0xE6#8, 0x9A#8], .and_n8 0x9A),
    ([0xE7#8], .rst_20),
    ([0xE8#8, 0xFC#8], .add_SP_e8 0xFC),
    ([0xE9#8], .jp_HL),
    ([0xEA#8, 0x34#8, 0x12#8], .ld_indN16_A 0x1234),
    ([0xEE#8, 0x9A#8], .xor_n8 0x9A),
    ([0xEF#8], .rst_28),
    ([0xF0#8, 0x9A#8], .ldh_A_indN8 0x9A),
    ([0xF1#8], .pop_AF),
    ([0xF2#8], .ld_A_indC),
    ([0xF3#8], .di),
    ([0xF5#8], .push_AF),
    ([0xF6#8, 0x9A#8], .or_n8 0x9A),
    ([0xF7#8], .rst_30),
    ([0xF8#8, 0xFC#8], .ld_HL_SPe8 0xFC),
    ([0xF9#8], .ld_SP_HL)]

theorem test_decode_rows_14 : ∀ p ∈ decodeRows14, decode p.1 = .instr p.2 [] := by decide

/-- Rows 240 to 255 of the table. -/
def decodeRows15 : List (List Byte × Instr) :=
  [([0xFA#8, 0x34#8, 0x12#8], .ld_A_indN16 0x1234),
    ([0xFB#8], .ei),
    ([0xFE#8, 0x9A#8], .cp_n8 0x9A),
    ([0xFF#8], .rst_38),
    ([0xCB#8, 0x00#8], .rlc_B),
    ([0xCB#8, 0x01#8], .rlc_C),
    ([0xCB#8, 0x02#8], .rlc_D),
    ([0xCB#8, 0x03#8], .rlc_E),
    ([0xCB#8, 0x04#8], .rlc_H),
    ([0xCB#8, 0x05#8], .rlc_L),
    ([0xCB#8, 0x06#8], .rlc_indHL),
    ([0xCB#8, 0x07#8], .rlc_A),
    ([0xCB#8, 0x08#8], .rrc_B),
    ([0xCB#8, 0x09#8], .rrc_C),
    ([0xCB#8, 0x0A#8], .rrc_D),
    ([0xCB#8, 0x0B#8], .rrc_E)]

theorem test_decode_rows_15 : ∀ p ∈ decodeRows15, decode p.1 = .instr p.2 [] := by decide

/-- Rows 256 to 271 of the table. -/
def decodeRows16 : List (List Byte × Instr) :=
  [([0xCB#8, 0x0C#8], .rrc_H),
    ([0xCB#8, 0x0D#8], .rrc_L),
    ([0xCB#8, 0x0E#8], .rrc_indHL),
    ([0xCB#8, 0x0F#8], .rrc_A),
    ([0xCB#8, 0x10#8], .rl_B),
    ([0xCB#8, 0x11#8], .rl_C),
    ([0xCB#8, 0x12#8], .rl_D),
    ([0xCB#8, 0x13#8], .rl_E),
    ([0xCB#8, 0x14#8], .rl_H),
    ([0xCB#8, 0x15#8], .rl_L),
    ([0xCB#8, 0x16#8], .rl_indHL),
    ([0xCB#8, 0x17#8], .rl_A),
    ([0xCB#8, 0x18#8], .rr_B),
    ([0xCB#8, 0x19#8], .rr_C),
    ([0xCB#8, 0x1A#8], .rr_D),
    ([0xCB#8, 0x1B#8], .rr_E)]

theorem test_decode_rows_16 : ∀ p ∈ decodeRows16, decode p.1 = .instr p.2 [] := by decide

/-- Rows 272 to 287 of the table. -/
def decodeRows17 : List (List Byte × Instr) :=
  [([0xCB#8, 0x1C#8], .rr_H),
    ([0xCB#8, 0x1D#8], .rr_L),
    ([0xCB#8, 0x1E#8], .rr_indHL),
    ([0xCB#8, 0x1F#8], .rr_A),
    ([0xCB#8, 0x20#8], .sla_B),
    ([0xCB#8, 0x21#8], .sla_C),
    ([0xCB#8, 0x22#8], .sla_D),
    ([0xCB#8, 0x23#8], .sla_E),
    ([0xCB#8, 0x24#8], .sla_H),
    ([0xCB#8, 0x25#8], .sla_L),
    ([0xCB#8, 0x26#8], .sla_indHL),
    ([0xCB#8, 0x27#8], .sla_A),
    ([0xCB#8, 0x28#8], .sra_B),
    ([0xCB#8, 0x29#8], .sra_C),
    ([0xCB#8, 0x2A#8], .sra_D),
    ([0xCB#8, 0x2B#8], .sra_E)]

theorem test_decode_rows_17 : ∀ p ∈ decodeRows17, decode p.1 = .instr p.2 [] := by decide

/-- Rows 288 to 303 of the table. -/
def decodeRows18 : List (List Byte × Instr) :=
  [([0xCB#8, 0x2C#8], .sra_H),
    ([0xCB#8, 0x2D#8], .sra_L),
    ([0xCB#8, 0x2E#8], .sra_indHL),
    ([0xCB#8, 0x2F#8], .sra_A),
    ([0xCB#8, 0x30#8], .swap_B),
    ([0xCB#8, 0x31#8], .swap_C),
    ([0xCB#8, 0x32#8], .swap_D),
    ([0xCB#8, 0x33#8], .swap_E),
    ([0xCB#8, 0x34#8], .swap_H),
    ([0xCB#8, 0x35#8], .swap_L),
    ([0xCB#8, 0x36#8], .swap_indHL),
    ([0xCB#8, 0x37#8], .swap_A),
    ([0xCB#8, 0x38#8], .srl_B),
    ([0xCB#8, 0x39#8], .srl_C),
    ([0xCB#8, 0x3A#8], .srl_D),
    ([0xCB#8, 0x3B#8], .srl_E)]

theorem test_decode_rows_18 : ∀ p ∈ decodeRows18, decode p.1 = .instr p.2 [] := by decide

/-- Rows 304 to 319 of the table. -/
def decodeRows19 : List (List Byte × Instr) :=
  [([0xCB#8, 0x3C#8], .srl_H),
    ([0xCB#8, 0x3D#8], .srl_L),
    ([0xCB#8, 0x3E#8], .srl_indHL),
    ([0xCB#8, 0x3F#8], .srl_A),
    ([0xCB#8, 0x40#8], .bit_0_B),
    ([0xCB#8, 0x41#8], .bit_0_C),
    ([0xCB#8, 0x42#8], .bit_0_D),
    ([0xCB#8, 0x43#8], .bit_0_E),
    ([0xCB#8, 0x44#8], .bit_0_H),
    ([0xCB#8, 0x45#8], .bit_0_L),
    ([0xCB#8, 0x46#8], .bit_0_indHL),
    ([0xCB#8, 0x47#8], .bit_0_A),
    ([0xCB#8, 0x48#8], .bit_1_B),
    ([0xCB#8, 0x49#8], .bit_1_C),
    ([0xCB#8, 0x4A#8], .bit_1_D),
    ([0xCB#8, 0x4B#8], .bit_1_E)]

theorem test_decode_rows_19 : ∀ p ∈ decodeRows19, decode p.1 = .instr p.2 [] := by decide

/-- Rows 320 to 335 of the table. -/
def decodeRows20 : List (List Byte × Instr) :=
  [([0xCB#8, 0x4C#8], .bit_1_H),
    ([0xCB#8, 0x4D#8], .bit_1_L),
    ([0xCB#8, 0x4E#8], .bit_1_indHL),
    ([0xCB#8, 0x4F#8], .bit_1_A),
    ([0xCB#8, 0x50#8], .bit_2_B),
    ([0xCB#8, 0x51#8], .bit_2_C),
    ([0xCB#8, 0x52#8], .bit_2_D),
    ([0xCB#8, 0x53#8], .bit_2_E),
    ([0xCB#8, 0x54#8], .bit_2_H),
    ([0xCB#8, 0x55#8], .bit_2_L),
    ([0xCB#8, 0x56#8], .bit_2_indHL),
    ([0xCB#8, 0x57#8], .bit_2_A),
    ([0xCB#8, 0x58#8], .bit_3_B),
    ([0xCB#8, 0x59#8], .bit_3_C),
    ([0xCB#8, 0x5A#8], .bit_3_D),
    ([0xCB#8, 0x5B#8], .bit_3_E)]

theorem test_decode_rows_20 : ∀ p ∈ decodeRows20, decode p.1 = .instr p.2 [] := by decide

/-- Rows 336 to 351 of the table. -/
def decodeRows21 : List (List Byte × Instr) :=
  [([0xCB#8, 0x5C#8], .bit_3_H),
    ([0xCB#8, 0x5D#8], .bit_3_L),
    ([0xCB#8, 0x5E#8], .bit_3_indHL),
    ([0xCB#8, 0x5F#8], .bit_3_A),
    ([0xCB#8, 0x60#8], .bit_4_B),
    ([0xCB#8, 0x61#8], .bit_4_C),
    ([0xCB#8, 0x62#8], .bit_4_D),
    ([0xCB#8, 0x63#8], .bit_4_E),
    ([0xCB#8, 0x64#8], .bit_4_H),
    ([0xCB#8, 0x65#8], .bit_4_L),
    ([0xCB#8, 0x66#8], .bit_4_indHL),
    ([0xCB#8, 0x67#8], .bit_4_A),
    ([0xCB#8, 0x68#8], .bit_5_B),
    ([0xCB#8, 0x69#8], .bit_5_C),
    ([0xCB#8, 0x6A#8], .bit_5_D),
    ([0xCB#8, 0x6B#8], .bit_5_E)]

theorem test_decode_rows_21 : ∀ p ∈ decodeRows21, decode p.1 = .instr p.2 [] := by decide

/-- Rows 352 to 367 of the table. -/
def decodeRows22 : List (List Byte × Instr) :=
  [([0xCB#8, 0x6C#8], .bit_5_H),
    ([0xCB#8, 0x6D#8], .bit_5_L),
    ([0xCB#8, 0x6E#8], .bit_5_indHL),
    ([0xCB#8, 0x6F#8], .bit_5_A),
    ([0xCB#8, 0x70#8], .bit_6_B),
    ([0xCB#8, 0x71#8], .bit_6_C),
    ([0xCB#8, 0x72#8], .bit_6_D),
    ([0xCB#8, 0x73#8], .bit_6_E),
    ([0xCB#8, 0x74#8], .bit_6_H),
    ([0xCB#8, 0x75#8], .bit_6_L),
    ([0xCB#8, 0x76#8], .bit_6_indHL),
    ([0xCB#8, 0x77#8], .bit_6_A),
    ([0xCB#8, 0x78#8], .bit_7_B),
    ([0xCB#8, 0x79#8], .bit_7_C),
    ([0xCB#8, 0x7A#8], .bit_7_D),
    ([0xCB#8, 0x7B#8], .bit_7_E)]

theorem test_decode_rows_22 : ∀ p ∈ decodeRows22, decode p.1 = .instr p.2 [] := by decide

/-- Rows 368 to 383 of the table. -/
def decodeRows23 : List (List Byte × Instr) :=
  [([0xCB#8, 0x7C#8], .bit_7_H),
    ([0xCB#8, 0x7D#8], .bit_7_L),
    ([0xCB#8, 0x7E#8], .bit_7_indHL),
    ([0xCB#8, 0x7F#8], .bit_7_A),
    ([0xCB#8, 0x80#8], .res_0_B),
    ([0xCB#8, 0x81#8], .res_0_C),
    ([0xCB#8, 0x82#8], .res_0_D),
    ([0xCB#8, 0x83#8], .res_0_E),
    ([0xCB#8, 0x84#8], .res_0_H),
    ([0xCB#8, 0x85#8], .res_0_L),
    ([0xCB#8, 0x86#8], .res_0_indHL),
    ([0xCB#8, 0x87#8], .res_0_A),
    ([0xCB#8, 0x88#8], .res_1_B),
    ([0xCB#8, 0x89#8], .res_1_C),
    ([0xCB#8, 0x8A#8], .res_1_D),
    ([0xCB#8, 0x8B#8], .res_1_E)]

theorem test_decode_rows_23 : ∀ p ∈ decodeRows23, decode p.1 = .instr p.2 [] := by decide

/-- Rows 384 to 399 of the table. -/
def decodeRows24 : List (List Byte × Instr) :=
  [([0xCB#8, 0x8C#8], .res_1_H),
    ([0xCB#8, 0x8D#8], .res_1_L),
    ([0xCB#8, 0x8E#8], .res_1_indHL),
    ([0xCB#8, 0x8F#8], .res_1_A),
    ([0xCB#8, 0x90#8], .res_2_B),
    ([0xCB#8, 0x91#8], .res_2_C),
    ([0xCB#8, 0x92#8], .res_2_D),
    ([0xCB#8, 0x93#8], .res_2_E),
    ([0xCB#8, 0x94#8], .res_2_H),
    ([0xCB#8, 0x95#8], .res_2_L),
    ([0xCB#8, 0x96#8], .res_2_indHL),
    ([0xCB#8, 0x97#8], .res_2_A),
    ([0xCB#8, 0x98#8], .res_3_B),
    ([0xCB#8, 0x99#8], .res_3_C),
    ([0xCB#8, 0x9A#8], .res_3_D),
    ([0xCB#8, 0x9B#8], .res_3_E)]

theorem test_decode_rows_24 : ∀ p ∈ decodeRows24, decode p.1 = .instr p.2 [] := by decide

/-- Rows 400 to 415 of the table. -/
def decodeRows25 : List (List Byte × Instr) :=
  [([0xCB#8, 0x9C#8], .res_3_H),
    ([0xCB#8, 0x9D#8], .res_3_L),
    ([0xCB#8, 0x9E#8], .res_3_indHL),
    ([0xCB#8, 0x9F#8], .res_3_A),
    ([0xCB#8, 0xA0#8], .res_4_B),
    ([0xCB#8, 0xA1#8], .res_4_C),
    ([0xCB#8, 0xA2#8], .res_4_D),
    ([0xCB#8, 0xA3#8], .res_4_E),
    ([0xCB#8, 0xA4#8], .res_4_H),
    ([0xCB#8, 0xA5#8], .res_4_L),
    ([0xCB#8, 0xA6#8], .res_4_indHL),
    ([0xCB#8, 0xA7#8], .res_4_A),
    ([0xCB#8, 0xA8#8], .res_5_B),
    ([0xCB#8, 0xA9#8], .res_5_C),
    ([0xCB#8, 0xAA#8], .res_5_D),
    ([0xCB#8, 0xAB#8], .res_5_E)]

theorem test_decode_rows_25 : ∀ p ∈ decodeRows25, decode p.1 = .instr p.2 [] := by decide

/-- Rows 416 to 431 of the table. -/
def decodeRows26 : List (List Byte × Instr) :=
  [([0xCB#8, 0xAC#8], .res_5_H),
    ([0xCB#8, 0xAD#8], .res_5_L),
    ([0xCB#8, 0xAE#8], .res_5_indHL),
    ([0xCB#8, 0xAF#8], .res_5_A),
    ([0xCB#8, 0xB0#8], .res_6_B),
    ([0xCB#8, 0xB1#8], .res_6_C),
    ([0xCB#8, 0xB2#8], .res_6_D),
    ([0xCB#8, 0xB3#8], .res_6_E),
    ([0xCB#8, 0xB4#8], .res_6_H),
    ([0xCB#8, 0xB5#8], .res_6_L),
    ([0xCB#8, 0xB6#8], .res_6_indHL),
    ([0xCB#8, 0xB7#8], .res_6_A),
    ([0xCB#8, 0xB8#8], .res_7_B),
    ([0xCB#8, 0xB9#8], .res_7_C),
    ([0xCB#8, 0xBA#8], .res_7_D),
    ([0xCB#8, 0xBB#8], .res_7_E)]

theorem test_decode_rows_26 : ∀ p ∈ decodeRows26, decode p.1 = .instr p.2 [] := by decide

/-- Rows 432 to 447 of the table. -/
def decodeRows27 : List (List Byte × Instr) :=
  [([0xCB#8, 0xBC#8], .res_7_H),
    ([0xCB#8, 0xBD#8], .res_7_L),
    ([0xCB#8, 0xBE#8], .res_7_indHL),
    ([0xCB#8, 0xBF#8], .res_7_A),
    ([0xCB#8, 0xC0#8], .set_0_B),
    ([0xCB#8, 0xC1#8], .set_0_C),
    ([0xCB#8, 0xC2#8], .set_0_D),
    ([0xCB#8, 0xC3#8], .set_0_E),
    ([0xCB#8, 0xC4#8], .set_0_H),
    ([0xCB#8, 0xC5#8], .set_0_L),
    ([0xCB#8, 0xC6#8], .set_0_indHL),
    ([0xCB#8, 0xC7#8], .set_0_A),
    ([0xCB#8, 0xC8#8], .set_1_B),
    ([0xCB#8, 0xC9#8], .set_1_C),
    ([0xCB#8, 0xCA#8], .set_1_D),
    ([0xCB#8, 0xCB#8], .set_1_E)]

theorem test_decode_rows_27 : ∀ p ∈ decodeRows27, decode p.1 = .instr p.2 [] := by decide

/-- Rows 448 to 463 of the table. -/
def decodeRows28 : List (List Byte × Instr) :=
  [([0xCB#8, 0xCC#8], .set_1_H),
    ([0xCB#8, 0xCD#8], .set_1_L),
    ([0xCB#8, 0xCE#8], .set_1_indHL),
    ([0xCB#8, 0xCF#8], .set_1_A),
    ([0xCB#8, 0xD0#8], .set_2_B),
    ([0xCB#8, 0xD1#8], .set_2_C),
    ([0xCB#8, 0xD2#8], .set_2_D),
    ([0xCB#8, 0xD3#8], .set_2_E),
    ([0xCB#8, 0xD4#8], .set_2_H),
    ([0xCB#8, 0xD5#8], .set_2_L),
    ([0xCB#8, 0xD6#8], .set_2_indHL),
    ([0xCB#8, 0xD7#8], .set_2_A),
    ([0xCB#8, 0xD8#8], .set_3_B),
    ([0xCB#8, 0xD9#8], .set_3_C),
    ([0xCB#8, 0xDA#8], .set_3_D),
    ([0xCB#8, 0xDB#8], .set_3_E)]

theorem test_decode_rows_28 : ∀ p ∈ decodeRows28, decode p.1 = .instr p.2 [] := by decide

/-- Rows 464 to 479 of the table. -/
def decodeRows29 : List (List Byte × Instr) :=
  [([0xCB#8, 0xDC#8], .set_3_H),
    ([0xCB#8, 0xDD#8], .set_3_L),
    ([0xCB#8, 0xDE#8], .set_3_indHL),
    ([0xCB#8, 0xDF#8], .set_3_A),
    ([0xCB#8, 0xE0#8], .set_4_B),
    ([0xCB#8, 0xE1#8], .set_4_C),
    ([0xCB#8, 0xE2#8], .set_4_D),
    ([0xCB#8, 0xE3#8], .set_4_E),
    ([0xCB#8, 0xE4#8], .set_4_H),
    ([0xCB#8, 0xE5#8], .set_4_L),
    ([0xCB#8, 0xE6#8], .set_4_indHL),
    ([0xCB#8, 0xE7#8], .set_4_A),
    ([0xCB#8, 0xE8#8], .set_5_B),
    ([0xCB#8, 0xE9#8], .set_5_C),
    ([0xCB#8, 0xEA#8], .set_5_D),
    ([0xCB#8, 0xEB#8], .set_5_E)]

theorem test_decode_rows_29 : ∀ p ∈ decodeRows29, decode p.1 = .instr p.2 [] := by decide

/-- Rows 480 to 495 of the table. -/
def decodeRows30 : List (List Byte × Instr) :=
  [([0xCB#8, 0xEC#8], .set_5_H),
    ([0xCB#8, 0xED#8], .set_5_L),
    ([0xCB#8, 0xEE#8], .set_5_indHL),
    ([0xCB#8, 0xEF#8], .set_5_A),
    ([0xCB#8, 0xF0#8], .set_6_B),
    ([0xCB#8, 0xF1#8], .set_6_C),
    ([0xCB#8, 0xF2#8], .set_6_D),
    ([0xCB#8, 0xF3#8], .set_6_E),
    ([0xCB#8, 0xF4#8], .set_6_H),
    ([0xCB#8, 0xF5#8], .set_6_L),
    ([0xCB#8, 0xF6#8], .set_6_indHL),
    ([0xCB#8, 0xF7#8], .set_6_A),
    ([0xCB#8, 0xF8#8], .set_7_B),
    ([0xCB#8, 0xF9#8], .set_7_C),
    ([0xCB#8, 0xFA#8], .set_7_D),
    ([0xCB#8, 0xFB#8], .set_7_E)]

theorem test_decode_rows_30 : ∀ p ∈ decodeRows30, decode p.1 = .instr p.2 [] := by decide

/-- Rows 496 to 510 of the table. -/
def decodeRows31 : List (List Byte × Instr) :=
  [([0xCB#8, 0xFC#8], .set_7_H),
    ([0xCB#8, 0xFD#8], .set_7_L),
    ([0xCB#8, 0xFE#8], .set_7_indHL),
    ([0xCB#8, 0xFF#8], .set_7_A),
    ([0xD3#8], .illegal_D3),
    ([0xDB#8], .illegal_DB),
    ([0xDD#8], .illegal_DD),
    ([0xE3#8], .illegal_E3),
    ([0xE4#8], .illegal_E4),
    ([0xEB#8], .illegal_EB),
    ([0xEC#8], .illegal_EC),
    ([0xED#8], .illegal_ED),
    ([0xF4#8], .illegal_F4),
    ([0xFC#8], .illegal_FC),
    ([0xFD#8], .illegal_FD)]

theorem test_decode_rows_31 : ∀ p ∈ decodeRows31, decode p.1 = .instr p.2 [] := by decide

/-! ## The table's numbering, and placing an instruction for the next step -/

/-- A row of the extended page is numbered 0xCB00 + b (log entry 9). -/
theorem test_decodeTableWord_extended : decodeTableWord 16 0xCB7C = some .bit_7_H := by decide

theorem test_decodeTableWord_operands : decodeTableWord 24 0x123401 = some (.ld_BC_n16 0x1234) := by decide

theorem test_decodeTableWord_short : decodeTableWord 8 0xCD = some (.call_n16 0x0000) := by decide

theorem test_withFetchWord_result : (match step (State.reset.withFetchWord 16 0x053E) with
    | .next t => t.a == 0x05 && t.pc == 0x0002
    | _ => false) = true := by decide

/-! ## Steps -/

/-- The bytes as a program of the bare machine, at 0x0000. -/
def prog (bytes : List Byte) : State := bareCore defaultConfig bytes

/-- Run one step and look at the next state. -/
def after (s : State) (p : State → Bool) : Bool :=
  match step s with
  | .next t => p t
  | _ => false

/-- Run one step and look at the fault. -/
def faultOf (s : State) : Option FaultInfo :=
  match step s with
  | .fault e => some e.info
  | _ => none

/-- R150's example. -/
theorem test_ld_B_C : after { prog [0x41] with b := 0x12, c := 0x99 } (fun t => t.b == 0x99 && t.c == 0x99) = true := by
  decide

/-- R151's example: H comes from the byte, L stays. -/
theorem test_ld_H_indHL : after { prog [0x66] with h := 0xC0, wram := [(0, 0x5A#8)] }
    (fun t => t.h == 0x5A && t.l == 0x00) = true := by decide

/-- R152's example. -/
theorem test_ld_indHL_H : after { prog [0x74] with h := 0xC1, l := 0x23 }
    (fun t => t.wram == [(0x123, 0xC1#8)]) = true := by decide

/-- R160's example: TAC. -/
theorem test_ldh_tac : after { prog [0xE0, 0x07] with a := 0x05 } (fun t => t.timer.tac == 0x05) = true := by decide

/-- R163's corner case: HL = 0xFFFF writes IE and wraps. -/
theorem test_ld_indHLinc_wraps : after { prog [0x22] with h := 0xFF, l := 0xFF, a := 0x1F }
    (fun t => t.ie == 0x1F && t.hl == 0x0000) = true := by decide

/-- R166's corner case: HL = 0xE000 faults. -/
theorem test_ld_A_indHLdec_prohibited : faultOf { prog [0x3A] with h := 0xE0, l := 0x00 } =
    some (.prohibitedAccess 0xE000 .read) := by decide

/-- R168's example. -/
theorem test_ld_indN16_SP : after { prog [0x08, 0x00, 0xC0] with sp := 0xFFF8 }
    (fun t => t.wram == [(0, 0xF8#8), (1, 0xFF#8)]) = true := by decide

/-- R170's corner case: a negative displacement. -/
theorem test_ld_HL_SPe8 : after { prog [0xF8, 0xFF] with sp := 0x0001 }
    (fun t => t.hl == 0x0000 && t.f == 0x30) = true := by decide

/-- R182's example. -/
theorem test_adc_A_C : after { prog [0x89] with a := 0x12, c := 0x2F, f := 0x10 }
    (fun t => t.a == 0x42 && t.f == 0x20) = true := by decide

/-- R186's example. -/
theorem test_sbc_A_H : after { prog [0x9C] with a := 0x3B, h := 0x2A, f := 0x10 }
    (fun t => t.a == 0x10 && t.f == 0x40) = true := by decide

/-- R195's example. -/
theorem test_cp_n8 : after { prog [0xFE, 0x40] with a := 0x3C } (fun t => t.a == 0x3C && t.f == 0x50) = true := by
  decide

/-- W5: INC B keeps the carry. -/
theorem test_inc_B : after { prog [0x04] with b := 0x0F, f := 0x50 } (fun t => t.b == 0x10 && t.f == 0x30) = true := by
  decide

/-- R202's example. -/
theorem test_add_HL_BC : after { prog [0x09] with h := 0x8A, l := 0x23, b := 0x06, c := 0x05, f := 0x80 }
    (fun t => t.hl == 0x9028 && t.f == 0xA0) = true := by decide

/-- R203's corner case. -/
theorem test_add_SP_e8 : after { prog [0xE8, 0xF8] with sp := 0xFFF8 }
    (fun t => t.sp == 0xFFF0 && t.f == 0x30) = true := by decide

/-- R210's example. -/
theorem test_rlca : after { prog [0x07] with a := 0x85 } (fun t => t.a == 0x0B && t.f == 0x10) = true := by decide

/-- R215's example. -/
theorem test_rlc_B : after { prog [0xCB, 0x00] with b := 0x85 } (fun t => t.b == 0x0B && t.f == 0x10) = true := by
  decide

/-- R223's example. -/
theorem test_bit_7_A : after { prog [0xCB, 0x7F] with a := 0x80, f := 0x10 } (fun t => t.f == 0x30) = true := by decide

/-- R247's example. -/
theorem test_jr_NZ : after { prog [0, 0, 0, 0, 0, 0, 0x20, 0xFC] with pc := 0x0006 } (fun t => t.pc == 0x0004) = true := by
  decide

/-- R256's example. -/
theorem test_rst_28 : after { prog [] with
      pc := 0x0200, sp := 0xFFFE, cart := { Cart.empty with rom := [(0x200, 0xEF#8)], romSize := 0x201 } }
    (fun t => t.sp == 0xFFFC && t.hram == [(0x7C, 0x01#8), (0x7D, 0x02#8)] && t.pc == 0x0028) = true := by decide

/-- R240: a pop at 0xFFFE leaves the window. -/
theorem test_pop_past_the_top : faultOf { prog [0xC1] with sp := 0xFFFE } = some (.stackFault 0x0000) := by decide

/-- R271's example: 15 - 06. -/
theorem test_daa_after_sub : after { prog [0x27] with a := 0x0F, f := 0x60 }
    (fun t => t.a == 0x09 && t.f == 0x40) = true := by decide

/-- R114: an unassigned code. -/
theorem test_illegal_code : faultOf (prog [0xD3]) = some (.illegalOpcode 0x0000 0x00D3) := by decide

/-- R278: STOP ends the run past its two bytes. -/
theorem test_stop : after (prog [0x10]) (fun t => t.status == .stopped .stop && t.pc == 0x0002) = true := by decide

/-- W9: ROM bank 5. -/
theorem test_combo_bank_5 : ({ Cart.empty with
      rom := [(0x14000, 0x77#8)], romSize := 0x20000
      ctrl := .combo { ComboRegs.reset with romBank := 5 } } : Cart).readRom 0x4000 = 0x77 := by decide

/-- R315: the counter wraps, reloads and requests. -/
theorem test_timer_overflow : (({ Timer.reset with tima := 0xFF, tma := 0x23, tac := 0x05 } : Timer).tick 16) =
    { Timer.reset with tima := 0x23, tma := 0x23, tac := 0x05, divAcc := 16, irq := true } := by decide

/-! ## Witnesses: states and operands that meet the hypotheses of the statements -/

/-- An outcome is a next state. -/
def isNext : Out → Bool
  | .next _ => true
  | .fault _ => false
  | .refused _ => false

theorem exists_next {o : Out} (h : isNext o = true) : ∃ t, o = .next t := by
  cases o with
  | next t => exact ⟨t, rfl⟩
  | fault e => cases h
  | refused r => cases h

/-- An outcome is a fault with a given record. -/
def isFault (i : FaultInfo) : Out → Bool
  | .next _ => false
  | .fault e => e.info == i
  | .refused _ => false

theorem exists_fault {i : FaultInfo} {o : Out} (h : isFault i o = true) : ∃ e, o = .fault e ∧ e.info = i := by
  cases o with
  | next t => cases h
  | fault e => exact ⟨e, rfl, eq_of_beq h⟩
  | refused r => cases h

theorem exists_fault' {o : Out} (i : FaultInfo) (h : isFault i o = true) : ∃ e, o = .fault e :=
  let ⟨e, he, _⟩ := exists_fault h
  ⟨e, he⟩

theorem inv_of {s : State} (h1 : s.wram = []) (h2 : s.hram = []) (h3 : s.cart.rom = []) (h4 : s.cart.cram = [])
    (h5 : s.cart.ctrl.legal = true) (h6 : s.f = 0x00) (h7 : s.timer = Timer.reset) : s.Inv := by
  refine ⟨?_, ?_, ?_, ?_, h5, ?_, ?_, ?_⟩
  · rw [h1]
    exact ⟨rfl, rfl⟩
  · rw [h2]
    exact ⟨rfl, rfl⟩
  · rw [h3]
    exact ⟨rfl, rfl⟩
  · rw [h4]
    exact ⟨rfl, rfl⟩
  · rw [h6]
    decide
  · rw [h7]
    decide
  · rw [h7]
    decide

/-- The default table with one entry changed: NOP takes 8. -/
def slowNop : Config := { defaultConfig with cycles := [((0x00, true), 8), ((0x20, false), 12)] }

/-- R8, R117: the count of an instruction is the entry of `CYCLES`. -/
theorem test_cycles_entry : after { prog [0x00] with cfg := slowNop } (fun t => t.elapsed == 8 && t.timer.divAcc == 8) =
    true := by decide +kernel

/-- R8, R40: the contents that `RAM_INIT` gives, byte by byte from offset 0. -/
theorem test_ram_init_contents :
    (let s := State.initial { defaultConfig with ramInit := { wram := [0x11, 0x22], hram := [0x33], ie := 0x44, cram := [] } }
      Cart.empty
    busValue 0xC001 s = 0x22 ∧ busValue 0xC002 s = 0x00 ∧ busValue 0xFF80 s = 0x33 ∧ busValue 0xFFFF s = 0x44) := by
  decide +kernel

theorem witness_ResetLeavesTheseValues : (∃ (cfg : Config) (cart : Cart) (s : State), s = State.initial cfg cart ∧
      (0 < 0x2000 ∧ 0x1FFF < 0x2000) ∧ 0 < 0x7F ∧ 0x7E < 0x7F) ∧
    (prog []).cfg.cycles = defaultConfig.cycles ∧
    (let s := { prog [] with cfg := slowNop }
    (((0x00, true), 8) ∈ s.cfg.cycles ∧ ∀ m, ((0x00, true), m) ∈ s.cfg.cycles → m = 8) ∧
      ((0x20, false), 12) ∈ s.cfg.cycles ∧ ∀ m, ((0x20, false), m) ∈ s.cfg.cycles → m = 12) :=
  ⟨⟨defaultConfig, Cart.empty, _, rfl, by decide +kernel⟩, by decide +kernel, ⟨by simp [slowNop], by simp [slowNop]⟩,
    by simp [slowNop], by simp [slowNop]⟩

theorem witness_DecodedBytesAreTheEncoding : decode [0x3E, 0xFF, 0x00] = .instr (.ld_A_n8 0xFF) [0x00] ∧
    decode [0x10, 0x42, 0x01] = .instr .stop [0x01] ∧ Instr.ld_A_n8 0xFF ≠ .stop := by decide +kernel

/-- Own bytes up to the last one of work RAM, and a one-byte instruction whose next byte is external. -/
theorem witness_StepRunsTheDecodedInstruction :
    (let s := { prog [] with pc := 0xDFFD, wram := [(0x1FFD, 0x01#8), (0x1FFE, 0x34#8), (0x1FFF, 0x12#8)] }
    s.status = .running ∧ decode (s.bytesAtPC 3) = .instr (.ld_BC_n16 0x1234) [] ∧
      ∀ k, k < fetchCount (.ld_BC_n16 0x1234) →
        external (s.pc + BitVec.ofNat 16 k) = false ∧ prohibited (s.pc + BitVec.ofNat 16 k) = false) ∧
    (let s := { prog [] with pc := 0x7FFF }
    s.status = .running ∧ (∃ rest, decode [busValue s.pc s, busValue (s.pc + 1) (busAfterRead s.pc s),
        busValue (s.pc + 2) (busAfterRead (s.pc + 1) (busAfterRead s.pc s))] = .instr .nop rest) ∧
      external (s.pc + 1) = true ∧ ∀ k, k < fetchCount .nop → prohibited (s.pc + BitVec.ofNat 16 k) = false) := by
  refine ⟨by decide +kernel, by decide +kernel, ?_, by decide +kernel, by decide +kernel⟩
  have key : ∀ x y : Byte, decode [0x00#8, x, y] = .instr .nop [x, y] := fun _ _ => rfl
  have h : busValue ({ prog [] with pc := 0x7FFF } : State).pc { prog [] with pc := 0x7FFF } = 0x00#8 := by decide +kernel
  rw [h]
  exact ⟨_, key _ _⟩

/-- A prohibited first, second and third byte, with each kind of entry. -/
theorem witness_FetchFromProhibitedAddressFaults :
    (prog []).status = .running ∧ prohibited 0xE000 = true ∧ prohibited 0xFEFF = true ∧
    prohibited 0xDFFF = false ∧ prohibited (0xDFFF + 1) = true ∧
    (busValue 0xDFFF { prog [] with wram := [(0x1FFF, 0x3E#8)] } = 0x3E ∧ ∃ mk, entryOf 0x3E = .imm8 mk) ∧
    (busValue 0xDFFF { prog [] with wram := [(0x1FFF, 0xC3#8)] } = 0xC3 ∧ ∃ mk, entryOf 0xC3 = .imm16 mk) ∧
    entryOf (busValue 0xDFFF { prog [] with wram := [(0x1FFF, 0xCB#8)] }) = .cbPrefix ∧
    prohibited 0xDFFE = false ∧ prohibited (0xDFFE + 1) = false ∧ prohibited (0xDFFE + 2) = true ∧
    busValue 0xDFFE { prog [] with wram := [(0x1FFE, 0xC3#8)] } = 0xC3 := by
  have h : busValue 0xDFFF { prog [] with wram := [(0x1FFF, 0xCB#8)] } = 0xCB := by decide +kernel
  refine ⟨by decide +kernel, by decide +kernel, by decide +kernel, by decide +kernel, by decide +kernel, ⟨by decide +kernel, _, rfl⟩, ⟨by decide +kernel, _, rfl⟩, ?_,
    by decide +kernel, by decide +kernel, by decide +kernel, by decide +kernel⟩
  rw [h]
  rfl

theorem witness_StepAfterTheEndChangesNothing :
    ({ prog [] with status := .stopped .halt } : State).status ≠ .running ∧
    ({ prog [] with status := .faulted (.stackFault 0x0000) } : State).status ≠ .running ∧
    (prog []).status = .running ∧ (∃ t, step (prog [0x00]) = .next t) ∧
    (prog [0x00]).cfg.cycles = defaultConfig.cycles ∧ ∃ e, step (prog [0xD3]) = .fault e :=
  ⟨by decide +kernel, by decide +kernel, by decide +kernel, exists_next (by decide +kernel), by decide +kernel, exists_fault' (.illegalOpcode 0x0000 0x00D3) (by decide +kernel)⟩


/-- The bare machine over an empty program meets the invariant. -/
theorem test_prog_inv (pc : Word) : ({ prog [] with pc := pc } : State).Inv :=
  inv_of rfl rfl rfl rfl rfl rfl rfl

/-- A well-formed machine that steps, and one that faults. -/
theorem witness_EveryStepKeepsTheInvariant :
    (({ prog [] with pc := 0x0000 } : State).Inv ∧ ∃ t, step { prog [] with pc := 0x0000 } = .next t) ∧
    ({ prog [] with pc := 0xE000 } : State).Inv ∧ ∃ e, step { prog [] with pc := 0xE000 } = .fault e :=
  ⟨⟨test_prog_inv _, exists_next (by decide +kernel)⟩, test_prog_inv _,
    exists_fault' (.prohibitedAccess 0xE000 .read) (by decide +kernel)⟩

/-- The default parameters but for a logo of zeros. -/
def zeroLogo : Config := { defaultConfig with logo := List.replicate 48 0x00#8 }

/-- An image with a given type code. -/
def imageOf (code : Byte) : List Byte := List.replicate 0x147 0x00#8 ++ [code, 0x00, 0x05]

theorem witness_InvariantHoldsAtConstruction :
    ∃ (cfg : Config) (image : List Byte) (s : State), loadCartridge cfg image = .ok s := by
  have h : (match loadCartridge zeroLogo (imageOf 0x00) with
      | .ok _ => true
      | .error _ => false) = true := by decide +kernel
  refine ⟨zeroLogo, imageOf 0x00, ?_⟩
  split at h
  · rename_i s hs
    exact ⟨s, hs⟩
  · cases h

/-- A step and a fault from a machine with each controller. -/
theorem witness_RomAndControllerKindNeverChange :
    (∃ t, step (prog []) = .next t) ∧
    (∃ t, step { prog [] with cart := { Cart.empty with ctrl := .combo ComboRegs.reset } } = .next t) ∧
    ∃ e, step { prog [] with pc := 0xE000, cart := { Cart.empty with ctrl := .ramonly RamonlyRegs.reset } } =
      .fault e :=
  ⟨exists_next (by decide +kernel), exists_next (by decide +kernel), exists_fault' (.prohibitedAccess 0xE000 .read) (by decide +kernel)⟩

theorem witness_InterruptBitsChangeOnlyAsListed :
    (∃ t, exec .di (prog []) = .next t) ∧ (∃ t, exec .ei (prog []) = .next t) ∧
    (∃ t, exec .reti { prog [] with sp := 0xFFFC } = .next t) ∧ (∃ t, exec .nop (prog []) = .next t) ∧
    ∃ t, step { prog [] with timer := { Timer.reset with irq := true } } = .next t :=
  ⟨exists_next (by decide +kernel), exists_next (by decide +kernel), exists_next (by decide +kernel), exists_next (by decide +kernel),
    exists_next (by decide +kernel)⟩

/-- Two states that differ in both bits. -/
theorem witness_NothingReadsInterruptBits : ∃ s t : State, s.forget = t.forget ∧ s.ime ≠ t.ime ∧
    s.timer.irq ≠ t.timer.irq :=
  ⟨prog [], { prog [] with ime := true, timer := { Timer.reset with irq := true } }, by decide +kernel, by decide +kernel, by decide +kernel⟩

theorem witness_OnlyHaltAndStopEndTheRun :
    (∃ t, exec .halt (prog []) = .next t) ∧ (∃ t, exec .stop (prog []) = .next t) ∧
    ∃ t, exec .nop (prog []) = .next t :=
  ⟨exists_next (by decide +kernel), exists_next (by decide +kernel), exists_next (by decide +kernel)⟩

/-- A fault of each kind, by a step and by an instruction. -/
theorem witness_FaultRecordsInfoAndDoesNotTick :
    (∃ e, step (prog [0xD3]) = .fault e ∧ e.info = .illegalOpcode 0x0000 0x00D3) ∧
    (∃ e, step { prog [] with pc := 0xE000 } = .fault e ∧ e.info = .prohibitedAccess 0xE000 .read) ∧
    ∃ e, step { prog [0xC1] with sp := 0xFFFE } = .fault e ∧ e.info = .stackFault 0x0000 :=
  ⟨exists_fault (by decide +kernel), exists_fault (by decide +kernel), exists_fault (by decide +kernel)⟩

/-- Another window, over the end of the echo region. -/
def lowStack : Config := { defaultConfig with stackLo := 0xC000, stackHi := 0xFE00 }

/-- A fault of each kind by each kind of form that raises it: a load, a read-modify-write, a pop (in another window),
a store, and a push (in another window); and a form of each kind that raises none. -/
theorem witness_WhichFaultsAnInstructionRaises :
    (∃ e, exec .illegal_D3 (prog []) = .fault e ∧ e.info = .illegalOpcode 0x0000 0x00D3) ∧
    (∃ e, exec .push_BC { prog [] with sp := 0xFF80 } = .fault e ∧ e.info = .stackFault 0xFF7E) ∧
    (∃ e, exec .ret { prog [] with sp := 0xFFFE } = .fault e ∧ e.info = .stackFault 0x0000) ∧
    (∃ e, exec .ld_B_indHL { prog [] with h := 0xFE, l := 0xFF } = .fault e ∧
      e.info = .prohibitedAccess 0xFEFF .read) ∧
    (∃ e, exec .inc_indHL { prog [] with h := 0xE0, l := 0x00 } = .fault e ∧
      e.info = .prohibitedAccess 0xE000 .read) ∧
    (∃ e, exec .ret { prog [] with sp := 0xDFFF, cfg := lowStack } = .fault e ∧
      e.info = .prohibitedAccess 0xE000 .read) ∧
    (∃ e, exec (.ld_indN16_SP 0xDFFF) (prog []) = .fault e ∧ e.info = .prohibitedAccess 0xE000 .write) ∧
    (∃ e, exec .push_BC { prog [] with sp := 0xE002, cfg := lowStack } = .fault e ∧
      e.info = .prohibitedAccess 0xE000 .write) ∧
    (∃ i w, RegisterForm i w) ∧ (∃ i, SkipForm i (prog [])) ∧ ∃ i, ReadModifyWrite i :=
  ⟨exists_fault (by decide +kernel), exists_fault (by decide +kernel), exists_fault (by decide +kernel),
    exists_fault (by decide +kernel), exists_fault (by decide +kernel), exists_fault (by decide +kernel),
    exists_fault (by decide +kernel), exists_fault (by decide +kernel), ⟨_, _, .nop⟩,
    ⟨_, .retCond .z _ (by decide +kernel)⟩, _, .incInd⟩

theorem witness_OtherInstructionsAdvanceByTheirLength :
    ¬ ControlFlow .nop ∧ ∃ t, exec .nop { prog [] with pc := 0xFFFF } = .next t := by
  refine ⟨fun h => ?_, exists_next (by decide +kernel)⟩
  generalize hi : Instr.nop = i at h
  cases h with
  | jpCond cc n => cases cc <;> cases hi
  | jrCond cc e => cases cc <;> cases hi
  | callCond cc n => cases cc <;> cases hi
  | retCond cc => cases cc <;> cases hi
  | rst y => fin_cases y <;> cases hi
  | _ => cases hi

theorem witness_FrameOfRegisterForms :
    (∃ i w t, RegisterForm i w ∧ exec i (prog []) = .next t) ∧
    ∃ i t, SkipForm i { prog [] with f := 0x80 } ∧ exec i { prog [] with f := 0x80 } = .next t :=
  let ⟨t, ht⟩ := exists_next (o := exec (.add_SP_e8 0x80) (prog [])) (by decide +kernel)
  let ⟨u, hu⟩ := exists_next (o := exec (.ofRetCond .nz) { prog [] with f := 0x80 }) (by decide +kernel)
  ⟨⟨_, _, t, .addSP 0x80, ht⟩, _, u, .retCond .nz _ (by decide +kernel), hu⟩

/-- A load of an own byte, and one that draws. -/
theorem witness_FrameOfLoadForms :
    (∃ i addr w t, LoadForm i addr w ∧ exec i { prog [] with h := 0xC0 } = .next t ∧
      external (addr { prog [] with h := 0xC0 }) = false) ∧
    ∃ i addr w t, LoadForm i addr w ∧ exec i { prog [] with h := 0x80 } = .next t ∧
      external (addr { prog [] with h := 0x80 }) = true :=
  let ⟨t, ht⟩ := exists_next (o := exec (.ofBit 7 .indHL) { prog [] with h := 0xC0 }) (by decide +kernel)
  let ⟨u, hu⟩ := exists_next (o := exec (.ofBit 7 .indHL) { prog [] with h := 0x80 }) (by decide +kernel)
  ⟨⟨_, _, _, t, .bit 7, ht, by decide +kernel⟩, _, _, _, u, .bit 7, hu, by decide +kernel⟩

theorem witness_FrameOfStoreForms :
    (∃ i addrs w t, StoreForm i addrs w ∧ exec i { prog [] with h := 0xC0 } = .next t) ∧
    ∃ i addrs w t, StoreForm i addrs w ∧ exec i (prog []) = .next t :=
  let ⟨t, ht⟩ := exists_next (o := exec .inc_indHL { prog [] with h := 0xC0 }) (by decide +kernel)
  let ⟨u, hu⟩ := exists_next (o := exec (.ld_indN16_SP 0xDFFE) (prog [])) (by decide +kernel)
  ⟨⟨_, _, _, t, .incInd, ht⟩, _, _, _, u, .ldAbsSP 0xDFFE, hu⟩

/-- A push to both ends of the window, and a pop from them. -/
theorem witness_FrameOfStackForms :
    (∃ i v t, PushForm i { prog [] with sp := 0xFF82 } v ∧ exec i { prog [] with sp := 0xFF82 } = .next t) ∧
    (∃ i v t, PushForm i { prog [] with sp := 0x0000 } v ∧ exec i { prog [] with sp := 0x0000 } = .next t) ∧
    ∃ i w t, PopForm i { prog [] with sp := 0xFFFC } w ∧ exec i { prog [] with sp := 0xFFFC } = .next t :=
  let ⟨t, ht⟩ := exists_next (o := exec (.ofPush .af) { prog [] with sp := 0xFF82 }) (by decide +kernel)
  let ⟨u, hu⟩ := exists_next (o := exec (.ofRst 7) { prog [] with sp := 0x0000 }) (by decide +kernel)
  let ⟨v, hv⟩ := exists_next (o := exec (.ofPop .af) { prog [] with sp := 0xFFFC }) (by decide +kernel)
  ⟨⟨_, _, t, .push .af _, ht⟩, ⟨_, _, u, .rst 7 _, hu⟩, _, _, v, .pop .af _, hv⟩

/-- The ends of every row of the dispatch table: the two statements about the Bus split the address space there. -/
theorem witness_BusDispatchByAddress :
    regionOf 0x0000 = .rom ∧ regionOf 0x7FFF = .rom ∧ regionOf 0x8000 = .videoRam ∧ regionOf 0x9FFF = .videoRam ∧
    regionOf 0xA000 = .cartRam ∧ regionOf 0xBFFF = .cartRam ∧ regionOf 0xC000 = .workRam ∧
    regionOf 0xDFFF = .workRam ∧ regionOf 0xE000 = .echo ∧ regionOf 0xFDFF = .echo ∧
    regionOf 0xFE00 = .spriteAttr ∧ regionOf 0xFE9F = .spriteAttr ∧ regionOf 0xFEA0 = .unusable ∧
    regionOf 0xFEFF = .unusable ∧ regionOf 0xFF00 = .ioExternal ∧ regionOf 0xFF03 = .ioExternal ∧
    regionOf 0xFF04 = .timer ∧ regionOf 0xFF07 = .timer ∧ regionOf 0xFF08 = .ioExternal ∧
    regionOf 0xFF7F = .ioExternal ∧ regionOf 0xFF80 = .highRam ∧ regionOf 0xFFFE = .highRam ∧
    regionOf 0xFFFF = .interruptEnable := by decide +kernel

/-- The hypothesis of each clause of BusReadsDispatchByAddress and BusWritesDispatchByAddress, at both ends of its
range. -/
theorem witness_BusReadsAndWritesDispatchByAddress :
    ((0x7FFF#16).toNat < 0x8000) ∧
    ([0x8000#16, 0x9FFF#16, 0xFE00#16, 0xFE9F#16, 0xFF00#16, 0xFF03#16, 0xFF08#16, 0xFF7F#16].all fun a =>
      decide (0x8000 ≤ a.toNat ∧ a.toNat < 0xA000 ∨ 0xFE00 ≤ a.toNat ∧ a.toNat < 0xFEA0 ∨
      0xFF00 ≤ a.toNat ∧ a.toNat < 0xFF04 ∨ 0xFF08 ≤ a.toNat ∧ a.toNat < 0xFF80)) ∧
    ([0xA000#16, 0xBFFF#16].all fun a =>
      decide (0xA000 ≤ a.toNat ∧ a.toNat < 0xC000)) ∧
    ([0xC000#16, 0xDFFF#16].all fun a =>
      decide (0xC000 ≤ a.toNat ∧ a.toNat < 0xE000)) ∧
    ([0xE000#16, 0xFDFF#16, 0xFEA0#16, 0xFEFF#16].all fun a =>
      decide (0xE000 ≤ a.toNat ∧ a.toNat < 0xFE00 ∨ 0xFEA0 ≤ a.toNat ∧ a.toNat < 0xFF00)) ∧
    ([0xFF80#16, 0xFFFE#16].all fun a =>
      decide (0xFF80 ≤ a.toNat ∧ a.toNat < 0xFFFF)) ∧
    (prog []).cfg.divWrite = .reset ∧ (prog []).cfg.divWrite ≠ .store ∧
    ({ prog [] with cfg := { defaultConfig with divWrite := .store } } : State).cfg.divWrite = .store := by decide +kernel

/-- Both bytes accessible; the first prohibited; only the second prohibited. -/
theorem witness_WordAccessIsTwoByteAccesses :
    (∃ s1 s2 lo hi, readByte 0xFFFF (prog []) = .ok lo s1 ∧ readByte (0xFFFF + 1) s1 = .ok hi s2) ∧
    (∃ s1 s2, writeByte 0xDFFE 0x00 (prog []) = .ok () s1 ∧ writeByte (0xDFFE + 1) 0x12 s1 = .ok () s2) ∧
    (∃ e, writeByte 0xE000 0x00 (prog []) = .fault e) ∧
    (∃ s1 e, writeByte 0xDFFF 0x00 (prog []) = .ok () s1 ∧ writeByte (0xDFFF + 1) 0x12 s1 = .fault e) ∧
    (∃ e, readByte 0xFDFF (prog []) = .fault e) ∧
    ∃ s1 lo e, readByte 0xFE9F (prog []) = .ok lo s1 ∧ readByte (0xFE9F + 1) s1 = .fault e :=
  ⟨⟨_, _, _, _, readByte_ok (by decide +kernel) _, readByte_ok (by decide +kernel) _⟩,
    ⟨_, _, writeByte_ok (by decide +kernel) _ _, writeByte_ok (by decide +kernel) _ _⟩,
    ⟨_, writeByte_fault (by decide +kernel) _ _⟩,
    ⟨_, _, writeByte_ok (by decide +kernel) _ _, writeByte_fault (by decide +kernel) _ _⟩,
    ⟨_, readByte_fault (by decide +kernel) _⟩,
    _, _, _, readByte_ok (by decide +kernel) _, readByte_fault (by decide +kernel) _⟩

/-- A cartridge with RAM under a controller. -/
def ramCart (ctrl : Controller) (size : Nat) : Cart := { Cart.empty with ramSize := size, ctrl := ctrl }

theorem test_ramCart_inv (c : Controller) (n : Nat) (h : c.legal = true) :
    ({ prog [] with cart := ramCart c n } : State).Inv :=
  inv_of rfl rfl rfl rfl h rfl rfl

/-- Enabled cartridge RAM at the last address of its window, under each controller that has RAM. -/
theorem witness_ReadGivesTheLastByteWritten :
    (∃ s : State, s.Inv ∧ s.cart.ctrl = .combo { ComboRegs.reset with ramEnabled := true } ∧
      s.cart.ramOffset 0xBFFF < s.cart.ramSize) ∧
    (∃ s : State, s.Inv ∧ s.cart.ctrl = .ramonly { RamonlyRegs.reset with ramEnabled := true } ∧
      s.cart.ramOffset 0xBFFF < s.cart.ramSize) ∧
    ([0xC000#16, 0xDFFF#16, 0xFF80#16, 0xFFFE#16, 0xFFFF#16, 0xFF05#16, 0xFF06#16, 0xFF07#16].all fun a =>
      decide (0xC000 ≤ a.toNat ∧ a.toNat < 0xE000 ∨ 0xFF80 ≤ a.toNat ∨ a = 0xFF05 ∨ a = 0xFF06 ∨ a = 0xFF07)) :=
  ⟨⟨_, test_ramCart_inv (.combo { ComboRegs.reset with ramEnabled := true }) 0x2000 rfl, rfl, by decide +kernel⟩,
    ⟨_, test_ramCart_inv (.ramonly { RamonlyRegs.reset with ramEnabled := true }) 0x200 rfl, rfl, by decide +kernel⟩,
    by decide +kernel⟩

theorem witness_BoundsAndRamGating :
    (∃ (k : Cart) (r : ComboRegs), k.ctrl = .combo r ∧ r.ramEnabled = false) ∧
    ∃ (k : Cart) (r : RamonlyRegs), k.ctrl = .ramonly r ∧ r.ramEnabled = false :=
  ⟨⟨ramCart (.combo ComboRegs.reset) 0x2000, _, rfl, rfl⟩, ramCart (.ramonly RamonlyRegs.reset) 0x200, _, rfl, rfl⟩

theorem witness_ComboUpperBankWriteAndRomView :
    ([0x4000#16, 0x5FFF#16].all fun a =>
      decide (0x4000 ≤ a.toNat ∧ a.toNat < 0x6000)) ∧
    ComboRegs.reset.mode = .rom ∧ { ComboRegs.reset with mode := BankMode.ram }.mode = .ram ∧
    (ramCart (.combo ComboRegs.reset) 0).ctrl = .combo ComboRegs.reset ∧
    (0x3FFF#16).toNat < 0x4000 ∧ ([0x4000#16, 0x7FFF#16].all fun a =>
      decide (0x4000 ≤ a.toNat ∧ a.toNat < 0x8000)) := by decide +kernel

theorem witness_ComboControlWritesAndRamView :
    (0x1FFF#16).toNat < 0x2000 ∧ ([0x2000#16, 0x3FFF#16].all fun a =>
      decide (0x2000 ≤ a.toNat ∧ a.toNat < 0x4000)) ∧
    ([0x6000#16, 0x7FFF#16].all fun a =>
      decide (0x6000 ≤ a.toNat ∧ a.toNat < 0x8000)) ∧
    defaultConfig.modeWritePolicy = .toggle ∧
    { defaultConfig with modeWritePolicy := .setBit0 }.modeWritePolicy = .setBit0 ∧
    (∀ m ∈ [BankMode.rom, BankMode.ram],
      (ramCart (.combo { ComboRegs.reset with ramEnabled := true, mode := m }) 0x2000).ctrl =
        .combo { ComboRegs.reset with ramEnabled := true, mode := m }) ∧
    ([0xA000#16, 0xBFFF#16].all fun a =>
      decide (0xA000 ≤ a.toNat ∧ a.toNat < 0xC000)) := by decide +kernel

theorem witness_NoneAndRamonlyControllers :
    (ramCart .none 0).ctrl = .none ∧ (0x7FFF#16).toNat < 0x8000 ∧ (0x3FFF#16).toNat < 0x4000 ∧
    (0x3FFE#16).getLsbD defaultConfig.mbc2SelectBit = false ∧
    (0x3FFF#16).getLsbD defaultConfig.mbc2SelectBit = true ∧ 0x4000 ≤ (0x4000#16).toNat ∧
    ([0x4000#16, 0x7FFF#16].all fun a =>
      decide (0x4000 ≤ a.toNat ∧ a.toNat < 0x8000)) ∧
    (ramCart (.ramonly { RamonlyRegs.reset with ramEnabled := true }) 0x200).ctrl =
      .ramonly { RamonlyRegs.reset with ramEnabled := true } := by decide +kernel

/-- The counter off; on and below the threshold; at the threshold with TIMA at 255 and at 254. -/
theorem witness_CounterLoopOfTheTick :
    Timer.reset.tac.toNat / 4 % 2 = 0 ∧
    (let t : Timer := { Timer.reset with tac := 0x05 }
    t.tac.toNat / 4 % 2 = 1 ∧ t.timaAcc + 15 < t.threshold ∧ t.threshold ≤ t.timaAcc + 16 ∧ t.tima.toNat < 255) ∧
    (let t : Timer := { Timer.reset with tac := 0x05, tima := 0xFF }
    t.tac.toNat / 4 % 2 = 1 ∧ t.threshold ≤ t.timaAcc + 16 ∧ t.tima.toNat = 255) := by decide +kernel

/-- HL, a pair or an address on each side of the ends of the prohibited regions: the hypotheses of LoadAndStoreAtHL,
LoadAndStoreAThroughPairOrAddress, LoadAndStoreSteppingHL, AccumulatorInstructions, IncrementAndDecrementByte,
RotateAndShiftInstructions and BitTestResetAndSet. -/
theorem witness_AccessibleAndProhibitedHL :
    ([0x0000#16, 0xDFFF#16, 0xFE00#16, 0xFE9F#16, 0xFF00#16, 0xFFFF#16].all fun a =>
      decide (prohibited a = false)) ∧
    ([0xE000#16, 0xFDFF#16, 0xFEA0#16, 0xFEFF#16].all fun a =>
      decide (prohibited a = true)) ∧
    ({ prog [] with h := 0xDF, l := 0xFF } : State).hl = 0xDFFF ∧
    ({ prog [] with h := 0xE0, l := 0x00 } : State).hl = 0xE000 ∧
    ({ prog [] with b := 0xFE, c := 0xFF } : State).addrPair .bc = 0xFEFF ∧
    ({ prog [] with d := 0xFF, e := 0x00 } : State).addrPair .de = 0xFF00 := by decide +kernel

theorem witness_StoreSPToMemory :
    (prohibited 0xFFFF = false ∧ prohibited (0xFFFF + 1) = false) ∧ prohibited 0xE000 = true ∧
    prohibited 0xDFFF = false ∧ prohibited (0xDFFF + 1) = true := by decide +kernel

theorem witness_RotateAndShiftInstructions :
    ∃ p ∈ [(Instr.rlca, RotOp.rlc), (.rrca, .rrc), (.rla, .rl), (.rra, .rr)], p.1 = .rra := by decide +kernel

theorem witness_BitTestResetAndSet :
    ∃ i ∈ [Instr.ofBit 7 .indHL, .ofRes 7 .indHL, .ofSet 7 .indHL], i = .set_7_indHL := by decide +kernel

/-- Both values of each condition. -/
theorem witness_AbsoluteAndRelativeJumps :
    ∀ cc : Cond, ({ prog [] with f := 0x90 } : State).cond cc ≠ (prog []).cond cc := by
  intro cc
  cases cc <;> decide +kernel

/-- The moved SP at the ends of the window, and a condition of each value: the hypotheses of
CallsRestartsAndPushesComplete (first line) and ReturnsAndPopsComplete (second line). -/
theorem witness_CallsReturnsPushesAndPops :
    ([0xFF82#16, 0x0000#16].all fun sp =>
      decide (inStackWindow defaultConfig (sp - 2) = true ∧ wordAccessible (sp - 2) = true)) ∧
    ([0xFF7E#16, 0xFFFC#16].all fun sp =>
      decide (inStackWindow defaultConfig (sp + 2) = true ∧ wordAccessible sp = true)) ∧
    (prog []).cond .nz = true ∧ (prog []).cond .z = false := by decide +kernel

/-- Outside the window by a push and by a pop; and, in another window, a prohibited first and second stack byte. -/
theorem witness_StackMovesAreCheckedBeforeMemory :
    inStackWindow defaultConfig (0xFF81 - 2) = false ∧ inStackWindow defaultConfig (0xFFFD + 2) = false ∧
    ([0xFF80#16, 0xFFFE#16].all fun sp =>
      decide (inStackWindow defaultConfig sp = true)) ∧
    (inStackWindow lowStack (0xE002 - 2) = true ∧ prohibited (0xE002 - 2) = true) ∧
    (inStackWindow lowStack (0xE001 - 2) = true ∧ prohibited (0xE001 - 2) = false ∧ prohibited (0xE001 - 1) = true) ∧
    (inStackWindow lowStack (0xE000 + 2) = true ∧ prohibited 0xE000 = true) ∧
    (inStackWindow lowStack (0xDFFF + 2) = true ∧ prohibited 0xDFFF = false ∧ prohibited (0xDFFF + 1) = true) ∧
    (∃ i v, PushForm i (prog []) v) ∧ ∃ i w, PopForm i (prog []) w :=
  ⟨by decide +kernel, by decide +kernel, by decide +kernel, by decide +kernel, by decide +kernel, by decide +kernel, by decide +kernel, ⟨_, _, .call 0x1234 _⟩, _, _, .ret _⟩

theorem witness_DecimalAdjustGivesDecimalSums : (0 < 100 ∧ 99 < 100) := by decide +kernel

theorem witness_UnassignedCodesRaiseIllegalOpcode : ∃ i : Instr, i.wellFormed = false := ⟨.illegal_FD, by decide +kernel⟩

/-- A short image; a wrong logo; each kind of type code. -/
theorem witness_CartridgeLoadChecksAndBuilds :
    ((imageOf 0).take 0x147).length < 0x148 ∧
    (0x148 ≤ (imageOf 0).length ∧ ((imageOf 0).drop 0x104).take 48 ≠ defaultConfig.logo) ∧
    ((imageOf 0).drop 0x104).take 48 = zeroLogo.logo ∧
    (∀ c ∈ [0x00#8, 0x01#8, 0x03#8, 0x04#8, 0x05#8, 0x06#8, 0x07#8], (imageOf c).getD 0x147 0 = c) := by decide +kernel

/-- The push that the statement about the host follows by a pop; a push and a pop at the ends of the window, and one of
each that leaves it. -/
theorem witness_HostAccessBetweenSteps :
    (∃ t u, ({ prog [] with sp := 0xFFFE } : State).Inv ∧ (prog []).cfg.stackLo = 0xFF80 ∧
      (prog []).cfg.stackHi = 0xFFFE ∧ inStackWindow (prog []).cfg 0xFFFE = true ∧
      hostPush 0xBEEF { prog [] with sp := 0xFFFE } = .ok u t) ∧
    ([0xFF82#16, 0x0000#16].all fun sp =>
      decide (inStackWindow (prog []).cfg (sp - 2) = true ∧ wordAccessible (sp - 2) = true)) ∧
    inStackWindow (prog []).cfg (0xFF80 - 2) = false ∧
    ([0xFF7E#16, 0xFFFC#16].all fun sp =>
      decide (inStackWindow (prog []).cfg (sp + 2) = true ∧ wordAccessible sp = true)) ∧
    inStackWindow (prog []).cfg (0xFFFE + 2) = false ∧
    ({ prog [] with cart := ramCart .none 4 } : State).Inv :=
  ⟨⟨_, (), inv_of rfl rfl rfl rfl rfl rfl rfl, by decide +kernel, by decide +kernel, by decide +kernel,
    push16_ok (s := { prog [] with sp := 0xFFFE }) (by decide +kernel) (by decide +kernel)⟩, by decide +kernel, by decide +kernel,
    by decide +kernel, by decide +kernel, test_ramCart_inv .none 4 rfl⟩
end

section
/-! Registers, pairs, the flag register and the values at construction (spec/10_state.md R20, R21, R23, R24, R40;
spec/00_scope.md R8). -/

namespace Sys2Proof.Machine

/-! ## F and AF as numbers -/

theorem toNat_packFlags (z n h c : Bool) :
    (packFlags z n h c).toNat = 128 * z.toNat + 64 * n.toNat + 32 * h.toNat + 16 * c.toNat := by
  cases z <;> cases n <;> cases h <;> cases c <;> rfl

/-- Masking a byte as F is masked clears its low nibble. -/
theorem toNat_maskF : ∀ v : Byte, (v &&& 0xF0#8).toNat = v.toNat / 16 * 16 := by
  decide

theorem loByte_maskF (v : Word) : loByte v &&& 0xF0#8 = BitVec.ofNat 8 (v.toNat % 256 / 16 * 16) := by
  apply BitVec.eq_of_toNat_eq
  rw [toNat_maskF, loByte_eq_ofNat, BitVec.toNat_ofNat, BitVec.toNat_ofNat]
  omega

/-- Settles O1: reading a register after a write, and the pairs by the byte order of the two halves. -/
theorem registersAreIndependentAndPairsAreViews : Obligations.RegistersAreIndependentAndPairsAreViews := by
  refine ⟨State.reg_setReg, fun s => ⟨rfl, rfl, rfl, rfl, rfl, rfl, rfl⟩,
    fun s => ⟨toNat_joinBytes s.b s.c, toNat_joinBytes s.d s.e, toNat_joinBytes s.h s.l⟩, fun v s => ?_⟩
  rw [← hiByte_eq_ofNat, ← loByte_eq_ofNat]
  exact ⟨rfl, rfl, rfl, joinBytes_hiByte_loByte v, joinBytes_hiByte_loByte v, joinBytes_hiByte_loByte v⟩

/-- Settles O2: the packing by cases, the flag readers as bits, and the mask as a number. -/
theorem flagRegisterLayout : Obligations.FlagRegisterLayout := by
  refine ⟨toNat_packFlags, fun s => ⟨getLsbD_eq_div_mod s.f 7, getLsbD_eq_div_mod s.f 6, getLsbD_eq_div_mod s.f 5,
    getLsbD_eq_div_mod s.f 4⟩, fun z n h c s => ?_, fun s => toNat_maskF s.f, fun v s => ?_, fun s => ?_, fun v s => ?_⟩
  · exact ⟨s.flagZ_setFlags z n h c, s.flagN_setFlags z n h c, s.flagH_setFlags z n h c, s.flagC_setFlags z n h c⟩
  · rw [State.readF, State.writeF_f, BitVec.and_assoc, BitVec.and_self, toNat_maskF]
  · rw [State.af, toNat_joinBytes, State.readF, toNat_maskF]
  · rw [State.setAF, loByte_maskF, hiByte_eq_ofNat]

/-! ## The parameters -/

/-- A key with exactly one value is looked up to it. -/
theorem lookup_eq_some_of_unique {α β : Type} [BEq α] [LawfulBEq α] {l : List (α × β)} {k : α} {n : β}
    (hmem : (k, n) ∈ l) (huniq : ∀ m, (k, m) ∈ l → m = n) : l.lookup k = some n := by
  obtain ⟨m, hm⟩ := Option.isSome_iff_exists.1 (List.lookup_isSome_iff.2 ⟨_, hmem, beq_self_eq_true k⟩)
  obtain ⟨l₁, l₂, hl, -⟩ := List.lookup_eq_some_iff.1 hm
  rw [hm, huniq m (by simp [hl])]

/-- `CYCLES` gives its entry for a code that it lists with one count (R8). -/
theorem cycleCount_of_entry {cfg : Config} {code n : Nat} {taken : Bool} (hmem : ((code, taken), n) ∈ cfg.cycles)
    (huniq : ∀ m, ((code, taken), m) ∈ cfg.cycles → m = n) (d : Nat) : cycleCount cfg code taken d = n := by
  rw [cycleCount, lookup_eq_some_of_unique hmem huniq]
  rfl

/-- The default `RAM_SIZE_TABLE` (R8). -/
theorem ramSizeOfCode_default : ∀ code : Byte, ramSizeOfCode defaultConfig code =
    if code = 0x02 then 0x2000 else if code = 0x03 then 0x8000 else if code = 0x04 then 0x20000
    else if code = 0x05 then 0x4000 else 0 := by
  decide

/-! ## Construction -/

/-- The bytes of a memory that construction fills from `RAM_INIT` (R8, R40). -/
theorem Memory.read_ofBytes_take_of_lt {n i : Nat} (h : i < n) (bs : List Byte) :
    Memory.read (Memory.ofBytes (bs.take n)) i = bs.getD i 0x00 := by
  rw [Memory.read_ofBytes_take, if_pos h]
  rfl

theorem Timer.reset_enabled : Timer.reset.enabled = false := by decide

theorem Timer.reset_threshold : Timer.reset.threshold = 1024 := by decide

/-- Settles O3: the fields are those of `State.initial` and `defaultConfig`; the memories and `CYCLES` by the lemmas
above. -/
theorem resetLeavesTheseValues : Obligations.ResetLeavesTheseValues := by
  refine ⟨fun cfg cart s hs => ?_, ⟨rfl, rfl, rfl, rfl⟩, ⟨rfl, rfl⟩, rfl, rfl, rfl, rfl, rfl, rfl, rfl, rfl, rfl, rfl,
    rfl, rfl, rfl, fun i => ⟨rfl, rfl, rfl⟩, rfl, ramSizeOfCode_default, rfl, fun s code d hc => ?_,
    fun s code d n => ?_⟩
  · subst hs
    have hwram : ∀ i, i < 0x2000 → Memory.read (State.initial cfg cart).wram i = cfg.ramInit.wram.getD i 0x00 :=
      fun i hi => Memory.read_ofBytes_take_of_lt hi _
    have hhram : ∀ i, i < 0x7F → Memory.read (State.initial cfg cart).hram i = cfg.ramInit.hram.getD i 0x00 :=
      fun i hi => Memory.read_ofBytes_take_of_lt hi _
    exact ⟨rfl, rfl, rfl, rfl, rfl, rfl, rfl, rfl, rfl, rfl, rfl, rfl, rfl, rfl, rfl, hwram, hhram, rfl, rfl, rfl, rfl,
      rfl, rfl, rfl, Timer.reset_enabled, Timer.reset_threshold, rfl, rfl, rfl⟩
  · exact ⟨State.cycles_default hc code d, State.cyclesNotTaken_default hc code d⟩
  · exact ⟨fun hmem huniq => cycleCount_of_entry hmem huniq d, fun hmem huniq => cycleCount_of_entry hmem huniq d⟩

end Sys2Proof.Machine
end

section
/-! The invariant of a well-formed machine (spec/10_state.md R23, R30, R31, R33, R34; spec/60_exceptions.md R314, R315):
construction gives it, and every primitive change of the state keeps it. -/

namespace Sys2Proof.Machine

/-! ## Byte arrays -/

theorem Memory.Array.write {n : Nat} {m : Memory} (h : Memory.Array n m) {i : Nat} (hi : i < n) (v : Byte) :
    Memory.Array n (Memory.write m i v) :=
  ⟨Memory.wf_write h.canonical i v, Memory.below_write h.inRange v hi⟩

theorem Memory.array_ofBytes (bs : List Byte) : Memory.Array bs.length (Memory.ofBytes bs) :=
  ⟨Memory.wf_ofBytes bs, Memory.below_ofBytes bs⟩

theorem Memory.array_ofBytes_take (n : Nat) (bs : List Byte) : Memory.Array n (Memory.ofBytes (bs.take n)) :=
  ⟨Memory.wf_ofBytes _, Memory.below_ofBytes_take n bs⟩

theorem Memory.array_nil (n : Nat) : Memory.Array n [] := ⟨rfl, rfl⟩

/-! ## The invariant and the primitive changes -/

/-- A Bus write goes to one owner, whose part of the invariant that owner's write keeps (R51). -/
theorem State.Inv.busStore {s : State} (h : s.Inv) (addr : Word) (v : Byte) : (busStore addr v s).Inv := by
  cases hr : regionOf addr with
  | rom =>
    simp only [Machine.busStore, hr]
    exact { h with banks := Controller.writeControl_legal s.cfg addr v h.banks }
  | cartRam =>
    obtain ⟨hrom, hromSize, hramSize, hctrl⟩ := Cart.writeRam_fields addr v s.cart
    simp only [Machine.busStore, hr]
    exact { h with
      rom := by rw [hrom, hromSize]; exact h.rom
      cram := by rw [hramSize]; exact Cart.writeRam_array h.cram addr v
      banks := by rw [hctrl]; exact h.banks }
  | workRam =>
    have hrange := regionOf_workRam.1 hr
    simp only [Machine.busStore, hr]
    exact { h with wram := h.wram.write (by omega) v }
  | highRam =>
    have hrange := regionOf_highRam.1 hr
    simp only [Machine.busStore, hr]
    exact { h with hram := h.hram.write (by omega) v }
  | timer =>
    obtain ⟨-, htima, hdiv⟩ := Timer.writeReg_frame s.cfg addr v s.timer
    simp only [Machine.busStore, hr]
    exact { h with
      divAcc := Nat.lt_of_le_of_lt hdiv h.divAcc
      timaAcc := htima ▸ h.timaAcc }
  | interruptEnable | videoRam | spriteAttr | ioExternal | echo | unusable =>
    simp only [Machine.busStore, hr]
    exact { h with }

theorem keeps_inv : Keeps State.Inv where
  gpr := fun _ _ _ _ _ _ _ _ _ _ _ _ h => { h with }
  flags := fun _ v h => { h with flagLow := maskF_low v }
  draw := fun _ _ h => { h with }
  store := fun _ addr v _ h => h.busStore addr v

theorem inv_keptByTick : KeptByTick State.Inv := by
  intro s c h
  obtain ⟨-, -, -, hdiv, htima⟩ := Timer.tick_frame c s.timer
  exact { h with divAcc := hdiv, timaAcc := htima h.timaAcc }

/-! ## Construction -/

/-- A core around a cartridge whose arrays and bank registers are well formed is well formed (R40). -/
theorem State.initial_inv (cfg : Config) {cart : Cart} (hrom : Memory.Array cart.romSize cart.rom)
    (hcram : Memory.Array cart.ramSize cart.cram) (hbanks : cart.ctrl.legal = true) : (State.initial cfg cart).Inv where
  wram := Memory.array_ofBytes_take _ _
  hram := Memory.array_ofBytes_take _ _
  rom := hrom
  cram := hcram
  banks := hbanks
  flagLow := BitVec.zero_and
  divAcc := Nat.zero_lt_succ _
  timaAcc := Nat.zero_lt_succ _

theorem controllerOf_legal (v : Variant) : (controllerOf v).legal = true := by
  cases v <;> rfl

/-- What loads is a core in the reset state around the image's cartridge (R342, R348). -/
theorem loadCartridge_eq_ok {cfg : Config} {image : List Byte} {s : State} (h : loadCartridge cfg image = .ok s) :
    ∃ v, s = State.initial cfg (cartOf cfg v image) := by
  unfold loadCartridge at h
  split at h
  · cases h
  · split at h
    · cases h
    · split at h
      · cases h
      · cases h
        exact ⟨_, rfl⟩

/-! ## The statements -/

/-- Settles O10: the invariant is kept by the primitive changes and by the tick, so by every step. -/
theorem everyStepKeepsTheInvariant : Obligations.EveryStepKeepsTheInvariant :=
  fun _ h => step_keeps keeps_inv inv_keptByTick h

/-- Settles O11: each constructed core is the initial state around a well-formed cartridge. -/
theorem invariantHoldsAtConstruction : Obligations.InvariantHoldsAtConstruction := by
  refine ⟨State.initial_inv _ (Memory.array_nil 0) (Memory.array_nil 0) rfl, fun cfg image s h => ?_,
    fun cfg program => State.initial_inv cfg (Memory.array_ofBytes program) (Memory.array_nil 0) rfl⟩
  obtain ⟨v, rfl⟩ := loadCartridge_eq_ok h
  exact State.initial_inv cfg (Memory.array_ofBytes image) (Memory.array_ofBytes_take _ _) (controllerOf_legal v)

end Sys2Proof.Machine
end

section
/-! Frames of the instructions that store nothing (spec/10_state.md R25, spec/20_memory.md R83, spec/60_exceptions.md
R311). The register frame is built up along the updates that a meaning makes, flags last; the memory frame follows from
the storage being as before when the instruction ends. -/

namespace Sys2Proof.Machine

/-! ## Storage: what the memory frame speaks of -/

/-- The fields of the state that a register update or a Bus read leaves alone: memory, cartridge, timer, the external
record and the count of cycles. -/
def State.storage (s : State) : (Memory × Memory × Byte × Cart) × Timer × List ExtWrite × Nat :=
  ((s.wram, s.hram, s.ie, s.cart), s.timer, s.extWrites, s.elapsed)

@[simp] theorem State.storage_fetched (n : Word) (s : State) : (s.fetched n).storage = s.storage := rfl

@[simp] theorem State.storage_setReg (r : Reg8) (v : Byte) (s : State) : (s.setReg r v).storage = s.storage := by
  cases r <;> rfl

@[simp] theorem State.storage_setPair (p : Pair) (v : Word) (s : State) : (s.setPair p v).storage = s.storage := by
  cases p <;> rfl

@[simp] theorem State.storage_setHL (v : Word) (s : State) : (s.setHL v).storage = s.storage := rfl

@[simp] theorem State.storage_setSP (v : Word) (s : State) : (s.setSP v).storage = s.storage := rfl

@[simp] theorem State.storage_setFlags (z n hf cf : Bool) (s : State) :
    (s.setFlags z n hf cf).storage = s.storage := rfl

@[simp] theorem State.storage_setIncFlags (v : Byte) (s : State) : (s.setIncFlags v).storage = s.storage := rfl

@[simp] theorem State.storage_setDecFlags (v : Byte) (s : State) : (s.setDecFlags v).storage = s.storage := rfl

@[simp] theorem storage_aluA (op : AluOp) (v : Byte) (s : State) : (aluA op v s).storage = s.storage := by
  cases op <;> rfl

@[simp] theorem storage_busAfterRead (addr : Word) (s : State) : (busAfterRead addr s).storage = s.storage := by
  simp [State.storage]

/-- An instruction that ends with its storage as before has the memory frame: the tick is all that touches it. -/
theorem memoryKept_retired {s u : State} (h : u.storage = s.storage) (p : Word) (c : Nat) :
    MemoryKept s (u.retired p c) := by
  simp only [State.storage, Prod.mk.injEq] at h
  obtain ⟨⟨hwram, hhram, hie, hcart⟩, htimer, hext, helapsed⟩ := h
  refine ⟨fun x hx => ?_, hcart, hext, ?_⟩
  · rw [busValue_retired hx]
    exact busValue_congr hx hwram hhram hie hcart (by rw [htimer]) (by rw [htimer])
  · rw [State.retired_timer, State.retired_elapsed, htimer, helapsed, Nat.add_sub_cancel_left]

/-! ## The register frame, update by update -/

theorem State.flag_congr {s t : State} (h : t.f = s.f) (g : Flag) : t.flag g = s.flag g := by
  cases g <;> simp [State.flag, State.flagZ, State.flagN, State.flagH, State.flagC, h]

/-- Writing a pair changes its two halves only (R21). -/
theorem State.reg_setPair_other {p : Pair} {q : Reg8} (h : q ∉ p.halves) (v : Word) (s : State) :
    (s.setPair p v).reg q = s.reg q := by
  cases p <;> cases q <;> simp [Pair.halves] at h <;> rfl

theorem State.sp_setPair_other {p : Pair} (h : p.isSP = false) (v : Word) (s : State) : (s.setPair p v).sp = s.sp := by
  cases p with
  | sp => cases h
  | bc | de | hl => rfl

/-- Each flag reads back what was written to it (R23). -/
theorem State.flag_setFlags (z n h c : Bool) (s : State) :
    (s.setFlags z n h c).flag .z = z ∧ (s.setFlags z n h c).flag .n = n ∧ (s.setFlags z n h c).flag .h = h ∧
      (s.setFlags z n h c).flag .c = c :=
  ⟨s.flagZ_setFlags z n h c, s.flagN_setFlags z n h c, s.flagH_setFlags z n h c, s.flagC_setFlags z n h c⟩

namespace RegistersKept

section
variable {rs : List Reg8} {sp ime st : Bool} {s u t : State}

/-- Before anything is written, nothing has changed. The flags are still unnamed: the frame of an instruction that
writes flags says of F that its low nibble is 0, which only that write gives. -/
theorem refl (s : State) : RegistersKept ⟨rs, [], sp, ime, st⟩ s s where
  regs _ _ := rfl
  flags _ _ := rfl
  f _ := rfl
  low h := absurd rfl h
  sp _ := rfl
  ime _ := rfl
  status _ := rfl
  cfg := rfl

/-- A further update that leaves F and the parameters alone and changes no register that is not named. -/
theorem update {w : Writes} (k : RegistersKept w s u) (hregs : ∀ q, q ∉ w.regs → t.reg q = u.reg q)
    (hf : t.f = u.f) (hsp : w.sp = false → t.sp = u.sp) (hime : w.ime = false → t.ime = u.ime)
    (hstatus : w.status = false → t.status = u.status) (hcfg : t.cfg = u.cfg) : RegistersKept w s t where
  regs q hq := (hregs q hq).trans (k.regs q hq)
  flags g hg := (State.flag_congr hf g).trans (k.flags g hg)
  f h := hf.trans (k.f h)
  low h := hf ▸ k.low h
  sp h := (hsp h).trans (k.sp h)
  ime h := (hime h).trans (k.ime h)
  status h := (hstatus h).trans (k.status h)
  cfg := hcfg.trans k.cfg

theorem setReg {w : Writes} (k : RegistersKept w s u) {r : Reg8} (hr : r ∈ w.regs) (v : Byte) :
    RegistersKept w s (u.setReg r v) := by
  refine k.update (fun q hq => ?_) (by simp) (by simp) (by simp) (by simp) (by simp)
  have hne : q ≠ r := fun e => hq (e ▸ hr)
  rw [State.reg_setReg, if_neg hne]

theorem setPair {w : Writes} (k : RegistersKept w s u) {p : Pair} (hregs : ∀ q ∈ p.halves, q ∈ w.regs)
    (hsp : w.sp = false → p.isSP = false) (v : Word) : RegistersKept w s (u.setPair p v) :=
  k.update (fun q hq => State.reg_setPair_other (fun hp => hq (hregs q hp)) v u) (by simp)
    (fun h => State.sp_setPair_other (hsp h) v u) (by simp) (by simp) (by simp)

theorem setHL {w : Writes} (k : RegistersKept w s u) (hregs : ∀ q ∈ Pair.hl.halves, q ∈ w.regs) (v : Word) :
    RegistersKept w s (u.setHL v) :=
  k.setPair (p := .hl) hregs (fun _ => rfl) v

theorem setSP {w : Writes} (k : RegistersKept w s u) (hsp : w.sp = true) (v : Word) : RegistersKept w s (u.setSP v) :=
  k.update (fun q _ => State.reg_setSP q v u) rfl (fun h => absurd hsp (by simp [h])) (fun _ => rfl) (fun _ => rfl) rfl

theorem setIme {w : Writes} (k : RegistersKept w s u) (hime : w.ime = true) (b : Bool) :
    RegistersKept w s { u with ime := b } :=
  k.update (fun q _ => by cases q <;> rfl) rfl (fun _ => rfl) (fun h => absurd hime (by simp [h])) (fun _ => rfl) rfl

theorem setStatus {w : Writes} (k : RegistersKept w s u) (hstatus : w.status = true) (x : Status) :
    RegistersKept w s { u with status := x } :=
  k.update (fun q _ => by cases q <;> rfl) rfl (fun _ => rfl) (fun _ => rfl) (fun h => absurd hstatus (by simp [h])) rfl

theorem fetched {w : Writes} (k : RegistersKept w s u) (n : Word) : RegistersKept w s (u.fetched n) :=
  k.update (fun q _ => State.reg_fetched q n u) rfl (fun _ => rfl) (fun _ => rfl) (fun _ => rfl) rfl

theorem busAfterRead {w : Writes} (k : RegistersKept w s u) (addr : Word) :
    RegistersKept w s (busAfterRead addr u) :=
  k.update (fun q _ => State.reg_busAfterRead q addr u) (by simp) (by simp) (by simp) (by simp) (by simp)

theorem retired {w : Writes} (k : RegistersKept w s u) (p : Word) (c : Nat) : RegistersKept w s (u.retired p c) :=
  k.update (fun q _ => State.reg_retired q p c u) rfl (fun _ => rfl) (fun _ => rfl) (fun _ => rfl) rfl

/-- Writing the flags names them: each is named, or written with its value at the start (R25). -/
theorem setFlags (k : RegistersKept ⟨rs, [], sp, ime, st⟩ s u) {fs : List Flag} {z n h c : Bool} (hfs : fs ≠ [])
    (hz : Flag.z ∈ fs ∨ z = s.flagZ) (hn : Flag.n ∈ fs ∨ n = s.flagN) (hh : Flag.h ∈ fs ∨ h = s.flagH)
    (hc : Flag.c ∈ fs ∨ c = s.flagC) : RegistersKept ⟨rs, fs, sp, ime, st⟩ s (u.setFlags z n h c) where
  regs q hq := (State.reg_setFlags q z n h c u).trans (k.regs q hq)
  flags g hg := by
    obtain ⟨ez, en, eh, ec⟩ := State.flag_setFlags z n h c u
    cases g with
    | z => exact ez.trans (hz.resolve_left hg)
    | n => exact en.trans (hn.resolve_left hg)
    | h => exact eh.trans (hh.resolve_left hg)
    | c => exact ec.trans (hc.resolve_left hg)
  f h := absurd h hfs
  low _ := packFlags_low z n h c
  sp := k.sp
  ime := k.ime
  status := k.status
  cfg := k.cfg

theorem setAllFlags (k : RegistersKept ⟨rs, [], sp, ime, st⟩ s u) (z n h c : Bool) :
    RegistersKept ⟨rs, Flag.all, sp, ime, st⟩ s (u.setFlags z n h c) :=
  k.setFlags (by decide) (.inl (by decide)) (.inl (by decide)) (.inl (by decide)) (.inl (by decide))

/-- 8-bit INC and DEC, and BIT, leave C. -/
theorem setFlagsButC (k : RegistersKept ⟨rs, [], sp, ime, st⟩ s u) {c : Bool} (hc : c = s.flagC) (z n h : Bool) :
    RegistersKept ⟨rs, [.z, .n, .h], sp, ime, st⟩ s (u.setFlags z n h c) :=
  k.setFlags (by decide) (.inl (by decide)) (.inl (by decide)) (.inl (by decide)) (.inr hc)

/-- ADD HL,rr, SCF and CCF leave Z. -/
theorem setFlagsButZ (k : RegistersKept ⟨rs, [], sp, ime, st⟩ s u) (n h c : Bool) :
    RegistersKept ⟨rs, [.n, .h, .c], sp, ime, st⟩ s (u.setFlags s.flagZ n h c) :=
  k.setFlags (by decide) (.inr rfl) (.inl (by decide)) (.inl (by decide)) (.inl (by decide))

theorem setIncFlags (k : RegistersKept ⟨rs, [], sp, ime, st⟩ s u) (v : Byte) :
    RegistersKept ⟨rs, [.z, .n, .h], sp, ime, st⟩ s (u.setIncFlags v) :=
  k.setFlagsButC (k.flags .c List.not_mem_nil) _ _ _

theorem setDecFlags (k : RegistersKept ⟨rs, [], sp, ime, st⟩ s u) (v : Byte) :
    RegistersKept ⟨rs, [.z, .n, .h], sp, ime, st⟩ s (u.setDecFlags v) :=
  k.setFlagsButC (k.flags .c List.not_mem_nil) _ _ _

/-- An accumulator operation writes all flags, and A unless it is CP (spec/40_alu.md R136). -/
theorem aluA {op : AluOp} (k : RegistersKept ⟨op.written, [], sp, ime, st⟩ s u) (v : Byte) :
    RegistersKept ⟨op.written, Flag.all, sp, ime, st⟩ s (aluA op v u) := by
  cases op with
  | cp => exact k.setAllFlags _ _ _ _
  | add | adc | sub | sbc | and | xor | or => exact (k.setReg List.mem_cons_self _).setAllFlags _ _ _ _

end

end RegistersKept

/-! ## The frame of an outcome -/

/-- A next state, if the outcome is one, has the register frame w and the memory frame, with n draws made in all. -/
def FramedOut (w : Writes) (s : State) (n : Nat) (o : Out) : Prop :=
  ∀ t, o = .next t → RegistersKept w s t ∧ MemoryKept s t ∧ t.extReads = n

theorem FramedOut.finish {w : Writes} {s u : State} {n : Nat} {p : Word} {c : Nat} (hr : RegistersKept w s u)
    (hm : u.storage = s.storage := by simp) (hx : u.extReads = n := by simp) : FramedOut w s n (finish p c u) := by
  intro t h
  cases h
  exact ⟨hr.retired p c, memoryKept_retired hm p c, hx⟩

/-- How many draws have been made after a read of one byte: one more if its address is external (spec/20_memory.md
R57, R83). -/
def drawsAfter (addr : Word) (s : State) : Nat := if external addr then s.extReads + 1 else s.extReads

@[simp] theorem drawsAfter_fetched (addr len : Word) (s : State) :
    drawsAfter addr (s.fetched len) = drawsAfter addr s := rfl

@[simp] theorem extReads_busAfterRead (addr : Word) (s : State) :
    (busAfterRead addr s).extReads = drawsAfter addr s := by
  unfold busAfterRead drawsAfter
  split <;> rfl

/-- An instruction that reads one byte and ends in a next state went on from the state after that read. -/
theorem FramedOut.load {w : Writes} {s : State} {n : Nat} {addr len : Word} {k : Byte → State → Out}
    (hk : ∀ v, FramedOut w s n (k v (busAfterRead addr (s.fetched len)))) :
    FramedOut w s n ((readByte addr (s.fetched len)).andThen k) := by
  intro t h
  obtain ⟨v, u, hread, hnext⟩ := Res.andThen_next h
  obtain ⟨-, -, rfl⟩ := readByte_eq_ok hread
  exact hk v t hnext

/-- The register frame right after the read. -/
theorem RegistersKept.loaded {rs : List Reg8} {sp ime st : Bool} (addr len : Word) (s : State) :
    RegistersKept ⟨rs, [], sp, ime, st⟩ s (Machine.busAfterRead addr (s.fetched len)) :=
  ((RegistersKept.refl s).fetched len).busAfterRead addr

/-- Each form ends with the updates its rule names, made from the state at the start. -/
theorem registerForm_framed {i : Instr} {w : Writes} (hf : RegisterForm i w) (s : State) :
    FramedOut w s s.extReads (exec i s) := by
  rw [exec_eq_runShape]
  cases hf with
  | ldRegReg dst r =>
    rw [Instr.shape_ofLdRegReg]
    exact .finish ((RegistersKept.refl s).setReg List.mem_cons_self _)
  | ldRegImm dst n =>
    rw [Instr.shape_ofLdRegImm]
    exact .finish ((RegistersKept.refl s).setReg List.mem_cons_self _)
  | ldPairImm p n =>
    rw [Instr.shape_ofLdPairImm]
    exact .finish ((RegistersKept.refl s).setPair (fun _ h => h) (fun h => h) _)
  | ldSPHL => exact .finish ((RegistersKept.refl s).setSP rfl _)
  | ldHLSP e => exact .finish (((RegistersKept.refl s).setHL (fun _ h => h) _).setAllFlags _ _ _ _)
  | aluReg op r =>
    rw [Instr.shape_ofAluR8]
    exact .finish (((RegistersKept.refl s).fetched 1).aluA _)
  | aluImm op n =>
    rw [Instr.shape_ofAluImm]
    exact .finish ((RegistersKept.refl s).aluA n)
  | incReg r =>
    rw [Instr.shape_ofIncReg]
    exact .finish (((RegistersKept.refl s).setReg List.mem_cons_self _).setIncFlags _)
  | decReg r =>
    rw [Instr.shape_ofDecReg]
    exact .finish (((RegistersKept.refl s).setReg List.mem_cons_self _).setDecFlags _)
  | incPair p =>
    rw [Instr.shape_ofIncPair]
    exact .finish ((RegistersKept.refl s).setPair (fun _ h => h) (fun h => h) _)
  | decPair p =>
    rw [Instr.shape_ofDecPair]
    exact .finish ((RegistersKept.refl s).setPair (fun _ h => h) (fun h => h) _)
  | addHL p =>
    rw [Instr.shape_ofAddHL]
    exact .finish (((RegistersKept.refl s).setHL (fun _ h => h) _).setFlagsButZ _ _ _)
  | addSP e => exact .finish (((RegistersKept.refl s).setSP rfl _).setAllFlags _ _ _ _)
  | rlca | rrca | rla | rra =>
    exact .finish (((RegistersKept.refl s).setReg List.mem_cons_self _).setAllFlags _ _ _ _)
  | rot op r =>
    rw [Instr.shape_ofRot]
    exact .finish ((((RegistersKept.refl s).fetched 2).setReg List.mem_cons_self _).setAllFlags _ _ _ _)
  | bit y r =>
    rw [Instr.shape_ofBit]
    exact .finish (((RegistersKept.refl s).fetched 2).setFlagsButC rfl _ _ _)
  | res y r =>
    rw [Instr.shape_ofRes]
    exact .finish (((RegistersKept.refl s).fetched 2).setReg List.mem_cons_self _)
  | set y r =>
    rw [Instr.shape_ofSet]
    exact .finish (((RegistersKept.refl s).fetched 2).setReg List.mem_cons_self _)
  | nop | jp | jpHL | jr => exact .finish (.refl s)
  | daa =>
    exact .finish (((RegistersKept.refl s).setReg List.mem_cons_self _).setFlags (by decide) (.inl (by decide))
      (.inr rfl) (.inl (by decide)) (.inl (by decide)))
  | cpl =>
    exact .finish (((RegistersKept.refl s).setReg List.mem_cons_self _).setFlags (by decide) (.inr rfl)
      (.inl (by decide)) (.inl (by decide)) (.inr rfl))
  | scf | ccf => exact .finish ((RegistersKept.refl s).setFlagsButZ _ _ _)
  | di | ei => exact .finish ((RegistersKept.refl s).setIme rfl _) rfl rfl
  | halt | stop => exact .finish ((RegistersKept.refl s).setStatus rfl _) rfl rfl
  | jpCond cc n =>
    rw [Instr.shape_ofJpCond, runShape, jpCond]
    split <;> exact .finish (.refl s)
  | jrCond cc e =>
    rw [Instr.shape_ofJrCond, runShape, jrCond]
    split <;> exact .finish (.refl s)

/-- A conditional call or return that is not taken only ends (R249, R251). -/
theorem skipForm_framed {i : Instr} {s : State} (hf : SkipForm i s) : FramedOut {} s s.extReads (exec i s) := by
  rw [exec_eq_runShape]
  cases hf with
  | callCond cc n _ skipped =>
    rw [Instr.shape_ofCallCond, runShape, callCond, if_neg (by simp [skipped])]
    exact .finish (.refl s)
  | retCond cc _ skipped =>
    rw [Instr.shape_ofRetCond, runShape, retCond, if_neg (by simp [skipped])]
    exact .finish (.refl s)

/-- Each form reads one byte, then ends with the updates its rule names. -/
theorem loadForm_framed {i : Instr} {addr : State → Word} {w : Writes} (hf : LoadForm i addr w) (s : State) :
    FramedOut w s (drawsAfter (addr s) s) (exec i s) := by
  rw [exec_eq_runShape]
  cases hf with
  | ldRegInd dst =>
    rw [Instr.shape_ofLdRegInd]
    exact .load fun _ => .finish ((RegistersKept.loaded _ _ s).setReg List.mem_cons_self _)
  | ldAPair p =>
    rw [Instr.shape_ofLdAPair]
    exact .load fun _ => .finish ((RegistersKept.loaded _ _ s).setReg List.mem_cons_self _)
  | ldAAbs | ldhA | ldAC =>
    exact .load fun _ => .finish ((RegistersKept.loaded _ _ s).setReg List.mem_cons_self _)
  | ldAInc | ldADec =>
    exact .load fun _ => .finish (((RegistersKept.loaded _ _ s).setReg List.mem_cons_self _).setHL
      (fun _ h => List.mem_cons_of_mem _ h) _)
  | alu op =>
    rw [Instr.shape_ofAluR8]
    exact .load fun _ => .finish ((RegistersKept.loaded _ _ s).aluA _)
  | bit y =>
    rw [Instr.shape_ofBit]
    exact .load fun _ => .finish ((RegistersKept.loaded _ _ s).setFlagsButC rfl _ _ _)

/-- Settles O19, form by form. -/
theorem frameOfRegisterForms : Obligations.FrameOfRegisterForms :=
  ⟨fun _ _ s t hf h => registerForm_framed hf s t h, fun _ _ t hf h => skipForm_framed hf t h⟩

/-- Settles O20, form by form. -/
theorem frameOfLoadForms : Obligations.FrameOfLoadForms :=
  fun _ _ _ s t hf h => loadForm_framed hf s t h

end Sys2Proof.Machine
end

section
/-! IME and the run status after each instruction, and the timer's request bit over steps (spec/10_state.md R28, R29;
spec/60_exceptions.md R306, R316). -/

namespace Sys2Proof

theorem Instr.shape_injective : Function.Injective Instr.shape := by
  intro i j h
  rw [← i.instr_shape, h, j.instr_shape]

/-- IME and status after an instruction of a shape, from those before it. -/
def Shape.controlAfter : Shape → Bool × Machine.Status → Bool × Machine.Status
  | .di, (_, st) => (false, st)
  | .ei, (_, st) => (true, st)
  | .reti, (_, st) => (true, st)
  | .halt, (b, _) => (b, .stopped .halt)
  | .stop, (b, _) => (b, .stopped .stop)
  | _, c => c

namespace Machine

/-! ## IME and status, operation by operation -/

/-- The two fields that only the control instructions write: IME and the run status. -/
def State.control (s : State) : Bool × Status := (s.ime, s.status)

@[simp] theorem State.control_setReg (r : Reg8) (v : Byte) (s : State) : (s.setReg r v).control = s.control := by
  cases r <;> rfl

@[simp] theorem State.control_setPair (p : Pair) (v : Word) (s : State) : (s.setPair p v).control = s.control := by
  cases p <;> rfl

@[simp] theorem State.control_setStackPair (p : StackPair) (v : Word) (s : State) :
    (s.setStackPair p v).control = s.control := by
  cases p <;> rfl

@[simp] theorem control_aluA (op : AluOp) (v : Byte) (s : State) : (aluA op v s).control = s.control := by
  cases op <;> rfl

@[simp] theorem control_busAfterRead (addr : Word) (s : State) : (busAfterRead addr s).control = s.control := by
  simp [State.control]

@[simp] theorem control_busStore (addr : Word) (v : Byte) (s : State) : (busStore addr v s).control = s.control := by
  simp [State.control]

@[simp] theorem State.control_setSP (v : Word) (s : State) : (s.setSP v).control = s.control := rfl

/-- Whatever the operation gives, IME and status are c after it. -/
def ControlAfter {α : Type} (c : Bool × Status) (r : Res α) : Prop := ∀ x u, r = .ok x u → u.control = c

theorem ControlAfter.bind {α β : Type} {c : Bool × Status} {r : Res α} {k : α → State → Res β} (hr : ControlAfter c r)
    (hk : ∀ x u, u.control = c → ControlAfter c (k x u)) : ControlAfter c (r.bind k) := by
  cases r with
  | ok x u => exact hk x u (hr x u rfl)
  | fault e =>
    intro x u h
    cases h

theorem controlAfter_readByte (addr : Word) (s : State) : ControlAfter s.control (readByte addr s) := by
  intro v u h
  obtain ⟨-, -, rfl⟩ := readByte_eq_ok h
  simp

theorem controlAfter_writeByte (addr : Word) (v : Byte) (s : State) : ControlAfter s.control (writeByte addr v s) := by
  intro x u h
  obtain ⟨-, rfl⟩ := writeByte_eq_ok h
  simp

theorem controlAfter_writeWord (addr v : Word) (s : State) : ControlAfter s.control (writeWord addr v s) :=
  (controlAfter_writeByte addr _ s).bind fun _ u hu => hu ▸ controlAfter_writeByte _ _ u

theorem controlAfter_push16 (v : Word) (s : State) : ControlAfter s.control (push16 v s) := by
  intro x u h
  obtain ⟨-, -, rfl⟩ := push16_eq_ok h
  simp

theorem controlAfter_pop16 (s : State) : ControlAfter s.control (pop16 s) := by
  intro x u h
  obtain ⟨-, -, rfl⟩ := pop16_eq_ok h
  simp

theorem controlAfter_readR8 (o : R8) (s : State) : ControlAfter s.control (readR8 o s) := by
  cases o with
  | reg r =>
    intro x u h
    cases h
    rfl
  | indHL => exact controlAfter_readByte _ s

theorem controlAfter_writeR8 (o : R8) (v : Byte) (s : State) : ControlAfter s.control (writeR8 o v s) := by
  cases o with
  | reg r =>
    intro x u h
    cases h
    simp
  | indHL => exact controlAfter_writeByte _ v s

/-! ## IME and status, instruction by instruction -/

/-- A next state, if the outcome is one, has IME and status c. -/
def ControlOut (c : Bool × Status) (o : Out) : Prop := ∀ t, o = .next t → t.control = c

theorem ControlOut.finish {c : Bool × Status} {u : State} (h : u.control = c) (p : Word) (n : Nat) :
    ControlOut c (finish p n u) := by
  intro t ht
  cases ht
  exact h

theorem ControlAfter.andThen {α : Type} {c d : Bool × Status} {r : Res α} {k : α → State → Out} (hr : ControlAfter c r)
    (hk : ∀ x u, u.control = c → ControlOut d (k x u)) : ControlOut d (r.andThen k) := by
  intro t h
  obtain ⟨x, u, hok, hnext⟩ := Res.andThen_next h
  exact hk x u (hr x u hok) t hnext

/-- An operation, then register updates, then the end of the instruction. -/
theorem ControlAfter.finish {α : Type} {c d : Bool × Status} {r : Res α} (hr : ControlAfter c r) {p : α → Word}
    {n : Nat} {k : α → State → State} (hk : ∀ x u, u.control = c → (k x u).control = d) :
    ControlOut d (r.andThen fun x u => Machine.finish (p x) n (k x u)) :=
  hr.andThen fun x u hu => .finish (hk x u hu) _ _

/-- Only the control instructions change IME or the status of a run (R28, R29). -/
theorem runShape_control (s : State) (sh : Shape) : ControlOut (sh.controlAfter s.control) (runShape s sh) := by
  cases sh with
  | ldRegInd | ldAPair | ldAAbs | ldhA | ldAC | ldAInc | ldADec =>
    exact (controlAfter_readByte _ (s.fetched 1)).finish fun _ u h => (u.control_setReg _ _).trans h
  | ldIndReg | ldIndImm | ldPairA | ldAbsA | ldhStA | ldCA | ldIncA | ldDecA =>
    exact (controlAfter_writeByte _ _ (s.fetched 1)).finish fun _ _ h => h
  | ldAbsSP => exact (controlAfter_writeWord _ _ (s.fetched 1)).finish fun _ _ h => h
  | aluR8 op o => exact (controlAfter_readR8 o (s.fetched 1)).finish fun _ u h => (control_aluA op _ u).trans h
  | bitR8 y o => exact (controlAfter_readR8 o (s.fetched 2)).finish fun _ _ h => h
  | rotR8 _ o | resR8 _ o | setR8 _ o =>
    exact (controlAfter_readR8 o (s.fetched 2)).andThen fun _ u h =>
      (h ▸ controlAfter_writeR8 o _ u).finish fun _ _ h' => h'
  | incInd | decInd =>
    exact (controlAfter_readByte _ (s.fetched 1)).andThen fun _ u h =>
      (h ▸ controlAfter_writeByte _ _ u).finish fun _ _ h' => h'
  | call | pushPair | restart => exact (controlAfter_push16 _ (s.fetched 1)).finish fun _ _ h => h
  | ret => exact (controlAfter_pop16 (s.fetched 1)).finish fun _ _ h => h
  | reti => exact (controlAfter_pop16 (s.fetched 1)).finish fun _ u h => congrArg (fun c => (true, c.2)) h
  | popPair p => exact (controlAfter_pop16 (s.fetched 1)).finish fun _ u h => (u.control_setStackPair p _).trans h
  | jpCond cc n =>
    rw [runShape, jpCond]
    split <;> exact .finish rfl _ _
  | jrCond cc n =>
    rw [runShape, jrCond]
    split <;> exact .finish rfl _ _
  | callCond cc n =>
    rw [runShape, callCond]
    split
    · exact (controlAfter_push16 _ (s.fetched 1)).finish fun _ _ h => h
    · exact .finish rfl _ _
  | retCond cc =>
    rw [runShape, retCond]
    split
    · exact (controlAfter_pop16 (s.fetched 1)).finish fun _ _ h => h
    · exact .finish rfl _ _
  | illegalCode code =>
    intro t h
    cases h
  | ldRegReg | ldRegImm => exact .finish (State.control_setReg _ _ s) _ _
  | incReg | decReg | rotA =>
    refine .finish ?_ _ _
    exact State.control_setReg _ _ s
  | ldPairImm | incPair | decPair => exact .finish (State.control_setPair _ _ s) _ _
  | aluImm op n => exact .finish (control_aluA op n s) _ _
  | _ => exact .finish rfl _ _

/-- DI, EI and RETI are the only instructions of their shapes. -/
theorem controlAfter_shape_ime (i : Instr) (c : Bool × Status) :
    (i.shape.controlAfter c).1 = if i = .di then false else if i = .ei ∨ i = .reti then true else c.1 := by
  by_cases hdi : i = .di
  · rw [if_pos hdi, hdi]
    rfl
  by_cases hei : i = .ei
  · rw [if_neg hdi, if_pos (.inl hei), hei]
    rfl
  by_cases hreti : i = .reti
  · rw [if_neg hdi, if_pos (.inr hreti), hreti]
    rfl
  rw [if_neg hdi, if_neg (fun h => h.elim hei hreti)]
  unfold Shape.controlAfter
  split
  case h_1 hs => exact absurd (Instr.shape_injective hs) hdi
  case h_2 hs => exact absurd (Instr.shape_injective hs) hei
  case h_3 hs => exact absurd (Instr.shape_injective hs) hreti
  all_goals rfl

theorem exec_ime {i : Instr} {s t : State} (h : exec i s = .next t) :
    t.ime = if i = .di then false else if i = .ei ∨ i = .reti then true else s.ime := by
  rw [exec_eq_runShape] at h
  have hc : t.control = i.shape.controlAfter s.control := runShape_control s i.shape t h
  exact (congrArg Prod.fst hc).trans (controlAfter_shape_ime i s.control)

/-! ## The timer's request bit -/

@[simp] theorem busStore_timer_irq (addr : Word) (v : Byte) (s : State) :
    (busStore addr v s).timer.irq = s.timer.irq := by
  unfold busStore
  split
  case h_4 => exact (Timer.writeReg_frame s.cfg addr v s.timer).1
  all_goals rfl

theorem keeps_irq : Keeps fun s => s.timer.irq = true where
  gpr := fun _ _ _ _ _ _ _ _ _ _ _ _ h => h
  flags := fun _ _ h => h
  draw := fun _ _ h => h
  store := fun s addr v _ h => (busStore_timer_irq addr v s).trans h

theorem irq_keptByTick : KeptByTick fun s => s.timer.irq = true := by
  intro s c h
  obtain ⟨-, -, hirq, -, -⟩ := Timer.tick_frame c s.timer
  exact hirq h

/-- Settles O13: IME shape by shape; the request bit as a property that every primitive change keeps. -/
theorem interruptBitsChangeOnlyAsListed : Obligations.InterruptBitsChangeOnlyAsListed :=
  ⟨fun _ _ _ h => exec_ime h, fun _ t h hirq => (step_keeps keeps_irq irq_keptByTick hirq).1 t h⟩

end Machine
end Sys2Proof
end

section
/-! What every step leaves alone: ROM, the sizes of ROM and cartridge RAM, which controller is active, and the parameters
(spec/10_state.md R31, R39; spec/20_memory.md R53, R54). -/

namespace Sys2Proof.Machine

/-- Which of the three controllers is active, whatever its registers hold (R31). -/
def Controller.variant : Controller → Variant
  | .none => .none
  | .combo _ => .combo
  | .ramonly _ => .ramonly

theorem Controller.variant_eq_none {c : Controller} : c.variant = .none ↔ c = .none := by
  cases c <;> simp [variant]

theorem Controller.variant_eq_combo {c : Controller} : c.variant = .combo ↔ ∃ r, c = .combo r := by
  cases c <;> simp [variant]

theorem Controller.variant_eq_ramonly {c : Controller} : c.variant = .ramonly ↔ ∃ r, c = .ramonly r := by
  cases c <;> simp [variant]

@[simp] theorem Controller.variant_writeControl (cfg : Config) (addr : Word) (v : Byte) (c : Controller) :
    (c.writeControl cfg addr v).variant = c.variant := by
  cases c <;> rfl

/-- What is fixed when a core is constructed: the parameters, ROM, the two sizes and the controller's kind. -/
def State.fixed (s : State) : Config × Memory × Nat × Nat × Variant :=
  (s.cfg, s.cart.rom, s.cart.romSize, s.cart.ramSize, s.cart.ctrl.variant)

@[simp] theorem fixed_busStore (addr : Word) (v : Byte) (s : State) : (busStore addr v s).fixed = s.fixed := by
  cases hr : regionOf addr with
  | rom => simp [busStore, hr, State.fixed, Cart.writeRom]
  | cartRam =>
    obtain ⟨hrom, hromSize, hramSize, hctrl⟩ := Cart.writeRam_fields addr v s.cart
    simp [busStore, hr, State.fixed, hrom, hromSize, hramSize, hctrl]
  | workRam | highRam | timer | interruptEnable | videoRam | spriteAttr | ioExternal | echo | unusable =>
    simp [busStore, hr, State.fixed]

theorem keeps_fixed (x : Config × Memory × Nat × Nat × Variant) : Keeps fun t => t.fixed = x where
  gpr := fun _ _ _ _ _ _ _ _ _ _ _ _ h => h
  flags := fun _ _ h => h
  draw := fun _ _ h => h
  store := fun t addr v _ h => (fixed_busStore addr v t).trans h

/-- Settles O12: no primitive change of the state touches the fixed part, so no step does. -/
theorem romAndControllerKindNeverChange : Obligations.RomAndControllerKindNeverChange := by
  intro s Same
  have same_of_fixed : ∀ t : State, t.fixed = s.fixed → Same t := by
    intro t h
    simp only [State.fixed, Prod.mk.injEq] at h
    obtain ⟨hcfg, hrom, hromSize, hramSize, hvariant⟩ := h
    refine ⟨hrom, hromSize, hramSize, hcfg, ?_, ?_, ?_⟩
    · rw [← Controller.variant_eq_none, hvariant, Controller.variant_eq_none]
    · rw [← Controller.variant_eq_combo, hvariant, Controller.variant_eq_combo]
    · rw [← Controller.variant_eq_ramonly, hvariant, Controller.variant_eq_ramonly]
  obtain ⟨hnext, hfault⟩ := step_keeps (keeps_fixed s.fixed) (fun _ _ h => h) (s := s) rfl
  exact ⟨fun t ht => same_of_fixed t (hnext t ht), fun e he => same_of_fixed _ (hfault e he)⟩

end Sys2Proof.Machine
end

section
/-! The three bank controllers (spec/20_memory.md R62 to R78): control writes as arithmetic on the bank registers, and
the views of ROM and of cartridge RAM. -/

namespace Sys2Proof.Machine

/-! ## Bits of a byte as numbers -/

/-- The low w bits of a value. -/
theorem extractLsb'_zero_eq_ofNat {n : Nat} (v : BitVec n) (w : Nat) : v.extractLsb' 0 w = BitVec.ofNat w v.toNat := by
  apply BitVec.eq_of_toNat_eq
  rw [BitVec.extractLsb'_toNat, Nat.shiftRight_zero, BitVec.toNat_ofNat]

/-- A field kept in place, joined with a field below it. -/
theorem or_low_eq_ofNat {a b : BitVec 7} {q c : Nat} (ha : a.toNat = q * 32) (hb : b.toNat = c) (hc : c < 32) :
    a ||| b = BitVec.ofNat 7 (q * 32 + c) := by
  apply BitVec.eq_of_toNat_eq
  have hor : a.toNat ||| b.toNat = q * 32 + c := by
    rw [ha, hb, ← Nat.shiftLeft_eq q 5, Nat.shiftLeft_add_eq_or_of_lt hc]
  rw [BitVec.toNat_or, hor, BitVec.toNat_ofNat, Nat.mod_eq_of_lt]
  rw [← hor, ← BitVec.toNat_or]
  exact (a ||| b).isLt

theorem toNat_keepHigh : ∀ b : BitVec 7, (b &&& 0x60#7).toNat = b.toNat / 32 * 32 := by decide

theorem toNat_keepLow : ∀ b : BitVec 7, (b &&& 0x1F#7).toNat = b.toNat % 32 := by decide

theorem toNat_shiftHigh : ∀ x : BitVec 2, (x.setWidth 7 <<< 5).toNat = x.toNat * 32 := by decide

/-- A bank number of w bits with 0 coerced to 1 (R67, R76); m is the number of banks. -/
theorem coerced_eq_ofNat {w m : Nat} (hm : m = 2 ^ w) (n : Nat) :
    (if BitVec.ofNat w n = 0#w then 1#w else BitVec.ofNat w n) = BitVec.ofNat w (if n % m = 0 then 1 else n % m) := by
  have hz : BitVec.ofNat w n = 0#w ↔ n % m = 0 := by
    rw [← BitVec.toNat_inj, BitVec.toNat_ofNat, BitVec.toNat_ofNat, Nat.zero_mod, hm]
  by_cases h : n % m = 0
  · rw [if_pos (hz.2 h), if_pos h]
  · rw [if_neg (fun e => h (hz.1 e)), if_neg h]
    apply BitVec.eq_of_toNat_eq
    rw [BitVec.toNat_ofNat, BitVec.toNat_ofNat, hm, Nat.mod_mod]

/-- The low nibble that RAMONLY keeps (R78). -/
theorem toNat_lowNibble : ∀ v : Byte, (v &&& 0x0F#8).toNat = v.toNat % 16 := by decide

theorem lowNibble_eq_ofNat (v : Byte) : v &&& 0x0F#8 = BitVec.ofNat 8 (v.toNat % 16) := by
  apply BitVec.eq_of_toNat_eq
  rw [toNat_lowNibble, BitVec.toNat_ofNat]
  omega

/-! ## COMBO's control writes -/

/-- R67. -/
theorem ComboRegs.selectLow_eq (v : Byte) (r : ComboRegs) : r.selectLow v = { r with
    romBank := BitVec.ofNat 7 (r.romBank.toNat / 32 * 32 + if v.toNat % 32 = 0 then 1 else v.toNat % 32) } := by
  have hlt : (if v.toNat % 32 = 0 then 1 else v.toNat % 32) < 32 := by split <;> omega
  rw [selectLow, extractLsb'_zero_eq_ofNat, coerced_eq_ofNat (m := 32) rfl, or_low_eq_ofNat (toNat_keepHigh _) _ hlt]
  rw [BitVec.toNat_setWidth, BitVec.toNat_ofNat]
  omega

/-- R68 in ROM mode. -/
theorem ComboRegs.selectHigh_rom {r : ComboRegs} (h : r.mode = .rom) (v : Byte) : r.selectHigh v = { r with
    romBank := BitVec.ofNat 7 (r.romBank.toNat % 32 + v.toNat % 4 * 32) } := by
  have hhigh : ((BitVec.ofNat 2 v.toNat).setWidth 7 <<< 5).toNat = v.toNat % 4 * 32 := by
    rw [toNat_shiftHigh, BitVec.toNat_ofNat]
  simp only [selectHigh, h]
  rw [extractLsb'_zero_eq_ofNat, BitVec.or_comm,
    or_low_eq_ofNat hhigh (toNat_keepLow _) (Nat.mod_lt _ (by decide)), Nat.add_comm]

/-- R68 in RAM mode. -/
theorem ComboRegs.selectHigh_ram {r : ComboRegs} (h : r.mode = .ram) (v : Byte) :
    r.selectHigh v = { r with ramBank := BitVec.ofNat 2 v.toNat } := by
  rw [selectHigh, h, ← extractLsb'_zero_eq_ofNat]

/-- R69, the default policy. -/
theorem ComboRegs.writeMode_toggle {cfg : Config} (h : cfg.modeWritePolicy = .toggle) (v : Byte) (r : ComboRegs) :
    r.writeMode cfg v = { r with mode := if r.mode = .rom then .ram else .rom } := by
  rw [writeMode, h]
  cases hm : r.mode <;> rfl

/-- R69, the other policy. -/
theorem ComboRegs.writeMode_setBit0 {cfg : Config} (h : cfg.modeWritePolicy = .setBit0) (v : Byte) (r : ComboRegs) :
    r.writeMode cfg v = { r with mode := if v.toNat % 2 = 1 then .ram else .rom } := by
  rw [writeMode, h, getLsbD_eq_div_mod]
  simp

section
variable {addr : Word} (cfg : Config) (v : Byte) (r : ComboRegs)

/-- The four control ranges (R65). -/
theorem ComboRegs.writeControl_enable (h : addr.toNat < 0x2000) :
    r.writeControl cfg addr v = { r with ramEnabled := v == cfg.ramEnableSentinel } := by
  rw [writeControl, if_pos h]

theorem ComboRegs.writeControl_low (h : 0x2000 ≤ addr.toNat ∧ addr.toNat < 0x4000) :
    r.writeControl cfg addr v = r.selectLow v := by
  rw [writeControl, if_neg (by omega), if_pos h.2]

theorem ComboRegs.writeControl_high (h : 0x4000 ≤ addr.toNat ∧ addr.toNat < 0x6000) :
    r.writeControl cfg addr v = r.selectHigh v := by
  rw [writeControl, if_neg (by omega), if_neg (by omega), if_pos h.2]

theorem ComboRegs.writeControl_mode (h : 0x6000 ≤ addr.toNat) : r.writeControl cfg addr v = r.writeMode cfg v := by
  rw [writeControl, if_neg (by omega), if_neg (by omega), if_neg (by omega)]

end

/-! ## The views of ROM and of cartridge RAM -/

section
variable {k : Cart} {addr : Word}

/-- The fixed region, under every controller (R63, R70, R77). -/
theorem Cart.readRom_low (h : addr.toNat < 0x4000) : k.readRom addr = k.romAt addr.toNat := by
  rw [readRom, romOffset, if_pos h]

/-- The switchable region (R63, R70, R77). -/
theorem Cart.readRom_high (h : 0x4000 ≤ addr.toNat) :
    k.readRom addr = k.romAt (k.ctrl.switchableBank * 0x4000 + (addr.toNat - 0x4000)) := by
  rw [readRom, romOffset, if_neg (by omega)]

/-- RAM that is not enabled reads 0 and drops writes (R63, R64). -/
theorem Cart.ram_disabled (h : k.ctrl.ramEnabled = false) (v : Byte) :
    k.readRam addr = 0x00 ∧ k.writeRam addr v = k := by
  rw [readRam, writeRam, h]
  exact ⟨rfl, rfl⟩

/-- Enabled RAM is the cell at the controller's offset, masked on both sides (R71, R78). -/
theorem Cart.ram_enabled (h : k.ctrl.ramEnabled = true) (v : Byte) :
    k.readRam addr = k.cramAt (k.ramOffset addr) &&& k.ctrl.ramMask ∧
      k.writeRam addr v = k.cramPut (k.ramOffset addr) (v &&& k.ctrl.ramMask) :=
  ⟨if_pos h, if_pos h⟩

/-- COMBO keeps the whole byte (R71). -/
theorem Cart.ram_combo {r : ComboRegs} (hc : k.ctrl = .combo r) (hon : r.ramEnabled = true) (v : Byte) :
    k.readRam addr = k.cramAt (k.ramOffset addr) ∧ k.writeRam addr v = k.cramPut (k.ramOffset addr) v := by
  have hmask : ∀ x : Byte, x &&& k.ctrl.ramMask = x := by
    intro x
    rw [hc]
    exact BitVec.and_allOnes
  have h := Cart.ram_enabled (addr := addr) (show k.ctrl.ramEnabled = true by rw [hc]; exact hon) v
  rwa [hmask, hmask] at h

theorem Cart.ramOffset_combo_rom {r : ComboRegs} (hc : k.ctrl = .combo r) (hm : r.mode = .rom) :
    k.ramOffset addr = addr.toNat - 0xA000 := by
  simp only [ramOffset, hc, hm]

theorem Cart.ramOffset_combo_ram {r : ComboRegs} (hc : k.ctrl = .combo r) (hm : r.mode = .ram) :
    k.ramOffset addr = r.ramBank.toNat * 0x2000 + (addr.toNat - 0xA000) := by
  simp only [ramOffset, hc, hm]

theorem Cart.ramOffset_ramonly {r : RamonlyRegs} (hc : k.ctrl = .ramonly r) :
    k.ramOffset addr = (addr.toNat - 0xA000) % 0x200 := by
  simp only [ramOffset, hc]

end

/-! ## The statements -/

/-- Settles O27: the bounds are those of the accessors, the gating that of `Controller.ramEnabled`. -/
theorem boundsAndRamGating : Obligations.BoundsAndRamGating := by
  refine ⟨fun _ _ => rfl, fun _ _ => rfl, fun _ _ _ => rfl, fun k addr v h => Cart.ram_disabled ?_ v⟩
  obtain ⟨r, hc, hoff⟩ | ⟨r, hc, hoff⟩ := h
  all_goals
    rw [hc]
    exact hoff

/-- Settles O28: the write by the mode, the view by the region. -/
theorem comboUpperBankWriteAndRomView : Obligations.ComboUpperBankWriteAndRomView := by
  refine ⟨fun cfg addr v r h => ⟨fun hm => ?_, fun hm => ?_⟩, fun k r addr hc => ⟨Cart.readRom_low, fun h => ?_⟩⟩
  · rw [ComboRegs.writeControl_high cfg v r h, ComboRegs.selectHigh_ram hm]
  · rw [ComboRegs.writeControl_high cfg v r h, ComboRegs.selectHigh_rom hm]
  · rw [Cart.readRom_high h.1, hc]
    rfl

/-- Settles O29: the control writes range by range, the view of RAM by the mode. -/
theorem comboControlWritesAndRamView : Obligations.ComboControlWritesAndRamView := by
  refine ⟨fun cfg addr v r => ⟨fun h => ?enable, fun h => ?low, fun h => ⟨fun hp => ?toggle, fun hp => ?setBit0⟩⟩,
    fun k r addr v hc hon _ _ => ⟨fun hm => ?romMode, fun hm => ?ramMode⟩⟩
  case enable => exact ComboRegs.writeControl_enable cfg v r h
  case low => rw [ComboRegs.writeControl_low cfg v r h, ComboRegs.selectLow_eq]
  case toggle => rw [ComboRegs.writeControl_mode cfg v r h.1, ComboRegs.writeMode_toggle hp]
  case setBit0 => rw [ComboRegs.writeControl_mode cfg v r h.1, ComboRegs.writeMode_setBit0 hp]
  case romMode =>
    rw [← Cart.ramOffset_combo_rom hc hm]
    exact Cart.ram_combo hc hon v
  case ramMode =>
    rw [← Cart.ramOffset_combo_ram hc hm]
    exact Cart.ram_combo hc hon v

/-- Settles O30: NONE by its one bank and its RAM that is never enabled; RAMONLY by the select bit, its bank, and the
mask on both sides of its RAM. -/
theorem noneAndRamonlyControllers : Obligations.NoneAndRamonlyControllers := by
  refine ⟨fun k addr v cfg hc => ⟨fun h => ⟨?noneRom, ?noneControl⟩, Cart.ram_disabled (by rw [hc]; rfl) v⟩,
    fun cfg addr v r => ⟨fun h hb => ?enable, fun h hb => ?bank, fun h => ?above⟩,
    fun k r addr hc => ⟨Cart.readRom_low, fun h => ?romHigh⟩, fun k r addr v hc hon => ?ram⟩
  case noneRom =>
    by_cases hlow : addr.toNat < 0x4000
    · exact Cart.readRom_low hlow
    · have hbank : k.ctrl.switchableBank = 1 := by rw [hc]; rfl
      rw [Cart.readRom_high (by omega), hbank]
      exact congrArg k.romAt (by omega)
  case noneControl =>
    rw [Cart.writeRom, hc]
    show { k with ctrl := .none } = k
    rw [← hc]
  case enable =>
    rw [RamonlyRegs.writeControl, if_pos h, hb]
    rfl
  case bank =>
    rw [RamonlyRegs.writeControl, if_pos h, if_pos hb, RamonlyRegs.selectBank, extractLsb'_zero_eq_ofNat,
      coerced_eq_ofNat (m := 16) rfl]
  case above => rw [RamonlyRegs.writeControl, if_neg (by omega)]
  case romHigh =>
    rw [Cart.readRom_high h.1, hc]
    rfl
  case ram =>
    obtain ⟨hread, hwrite⟩ := Cart.ram_enabled (addr := addr) (show k.ctrl.ramEnabled = true by rw [hc]; exact hon) v
    have hmask : k.ctrl.ramMask = 0x0F#8 := by rw [hc]; rfl
    rw [hread, hwrite, hmask, Cart.ramOffset_ramonly hc]
    exact ⟨toNat_lowNibble _, by rw [lowNibble_eq_ofNat]⟩

end Sys2Proof.Machine
end

section
/-! The Bus row by row (spec/20_memory.md R50 to R61): what a read gives and what a write changes at an address of each
row, and the 16-bit accesses made of them (R52, R79). -/

namespace Sys2Proof.Machine

/-! ## Reads -/

section
variable {addr : Word}

theorem busValue_rom (h : regionOf addr = .rom) (s : State) : busValue addr s = s.cart.readRom addr := by
  simp only [busValue, h]

theorem busValue_cartRam (h : regionOf addr = .cartRam) (s : State) : busValue addr s = s.cart.readRam addr := by
  simp only [busValue, h]

theorem busValue_workRam (h : regionOf addr = .workRam) (s : State) :
    busValue addr s = Memory.read s.wram (addr.toNat - 0xC000) := by
  simp only [busValue, h]

theorem busValue_timer (h : regionOf addr = .timer) (s : State) : busValue addr s = s.timer.readReg addr := by
  simp only [busValue, h]

theorem busValue_highRam (h : regionOf addr = .highRam) (s : State) :
    busValue addr s = Memory.read s.hram (addr.toNat - 0xFF80) := by
  simp only [busValue, h]

theorem busValue_interruptEnable (h : regionOf addr = .interruptEnable) (s : State) : busValue addr s = s.ie := by
  simp only [busValue, h]

/-- An address that the CORE owns: the rows that are neither external nor prohibited (R51, R57, R58). -/
def Owned (addr : Word) : Prop := external addr = false ∧ prohibited addr = false

theorem owned_iff : Owned addr ↔ addr.toNat < 0x8000 ∨ 0xA000 ≤ addr.toNat ∧ addr.toNat < 0xE000 ∨
    0xFF04 ≤ addr.toNat ∧ addr.toNat < 0xFF08 ∨ 0xFF80 ≤ addr.toNat := by
  have := addr.isLt
  rw [Owned, ← Bool.not_eq_true, ← Bool.not_eq_true, external_iff, prohibited_iff]
  omega

/-- A read of an owned address has no side effect (R83). -/
theorem readByte_owned (h : Owned addr) (s : State) : readByte addr s = .ok (busValue addr s) s := by
  rw [readByte_ok h.2, busAfterRead_own h.1]

theorem not_prohibited_of_external (h : external addr = true) : prohibited addr = false := by
  rw [← Bool.not_eq_true, prohibited_iff]
  rw [external_iff] at h
  omega

/-- A read of an external address is one draw (R57). -/
theorem readByte_external (h : external addr = true) (s : State) :
    readByte addr s = .ok (Config.extRead s.extReads addr) { s with extReads := s.extReads + 1 } := by
  have hv : busValue addr s = Config.extRead s.extReads addr := by
    cases hr : regionOf addr with
    | videoRam | spriteAttr | ioExternal => simp only [busValue, hr]
    | _ => simp [external, hr] at h
  rw [readByte_ok (not_prohibited_of_external h), hv, busAfterRead, if_pos h]

/-! ## Writes -/

theorem busStore_rom (h : regionOf addr = .rom) (v : Byte) (s : State) :
    busStore addr v s = { s with cart := s.cart.writeRom s.cfg addr v } := by
  simp only [busStore, h]

theorem busStore_cartRam (h : regionOf addr = .cartRam) (v : Byte) (s : State) :
    busStore addr v s = { s with cart := s.cart.writeRam addr v } := by
  simp only [busStore, h]

theorem busStore_workRam (h : regionOf addr = .workRam) (v : Byte) (s : State) :
    busStore addr v s = { s with wram := Memory.write s.wram (addr.toNat - 0xC000) v } := by
  simp only [busStore, h]

theorem busStore_timer (h : regionOf addr = .timer) (v : Byte) (s : State) :
    busStore addr v s = { s with timer := s.timer.writeReg s.cfg addr v } := by
  simp only [busStore, h]

theorem busStore_highRam (h : regionOf addr = .highRam) (v : Byte) (s : State) :
    busStore addr v s = { s with hram := Memory.write s.hram (addr.toNat - 0xFF80) v } := by
  simp only [busStore, h]

theorem busStore_interruptEnable (h : regionOf addr = .interruptEnable) (v : Byte) (s : State) :
    busStore addr v s = { s with ie := v } := by
  simp only [busStore, h]

/-- A write to an external address is one recorded event (R57). -/
theorem busStore_external (h : external addr = true) (v : Byte) (s : State) :
    busStore addr v s = { s with extWrites := ⟨addr, v⟩ :: s.extWrites } := by
  cases hr : regionOf addr with
  | videoRam | spriteAttr | ioExternal => simp only [busStore, hr]
  | _ => simp [external, hr] at h

/-- A DIV write under the two values of `DIV_WRITE` (R313). -/
theorem Timer.writeReg_div_reset {cfg : Config} (h : cfg.divWrite = .reset) (v : Byte) (t : Timer) :
    t.writeReg cfg 0xFF04 v = { t with div := 0, divAcc := 0 } := by
  rw [Timer.writeReg, h]
  rfl

theorem Timer.writeReg_div_store {cfg : Config} (h : cfg.divWrite = .store) (v : Byte) (t : Timer) :
    t.writeReg cfg 0xFF04 v = { t with div := v } := by
  rw [Timer.writeReg, h]
  rfl

theorem writeByte_owned (h : Owned addr) (v : Byte) (s : State) : writeByte addr v s = .ok () (busStore addr v s) :=
  writeByte_ok h.2 v s

end

/-! ## The statements -/

/-- Settles O23: each range is that of one row, and each row's read is the lemma of that row. -/
theorem busReadsDispatchByAddress : Obligations.BusReadsDispatchByAddress := by
  intro addr s
  refine ⟨fun h => ?rom, fun h => readByte_external (external_iff.2 h) s, fun h => ?cartRam, fun h => ?workRam,
    fun h => readByte_fault (prohibited_iff.2 h) s, ?div, ?tima, ?tma, ?tac, fun h => ?highRam, ?ie⟩
  case rom => rw [readByte_owned (owned_iff.2 (by omega)), busValue_rom (regionOf_rom.2 h)]
  case cartRam => rw [readByte_owned (owned_iff.2 (by omega)), busValue_cartRam (regionOf_cartRam.2 h)]
  case workRam => rw [readByte_owned (owned_iff.2 (by omega)), busValue_workRam (regionOf_workRam.2 h)]
  case highRam => rw [readByte_owned (owned_iff.2 (by omega)), busValue_highRam (regionOf_highRam.2 h)]
  case div | tima | tma | tac | ie =>
    rintro rfl
    rfl

/-- Settles O24: each range is that of one row, and each row's write is the lemma of that row; the four timer registers
by R313. -/
theorem busWritesDispatchByAddress : Obligations.BusWritesDispatchByAddress := by
  intro addr v s
  refine ⟨fun h => ?rom, fun h => ?external, fun h => ?cartRam, fun h => ?workRam,
    fun h => writeByte_fault (prohibited_iff.2 h) v s, ?divReset, ?divStore, ?tima, ?tma, ?tac,
    fun h => ?highRam, ?ie⟩
  case rom =>
    rw [writeByte_owned (owned_iff.2 (by omega)), busStore_rom (regionOf_rom.2 h)]
    rfl
  case external =>
    have hx := external_iff.2 h
    rw [writeByte_ok (not_prohibited_of_external hx), busStore_external hx]
  case cartRam => rw [writeByte_owned (owned_iff.2 (by omega)), busStore_cartRam (regionOf_cartRam.2 h)]
  case workRam => rw [writeByte_owned (owned_iff.2 (by omega)), busStore_workRam (regionOf_workRam.2 h)]
  case highRam => rw [writeByte_owned (owned_iff.2 (by omega)), busStore_highRam (regionOf_highRam.2 h)]
  case divReset =>
    rintro rfl hd
    rw [writeByte_owned ⟨rfl, rfl⟩, busStore_timer rfl, Timer.writeReg_div_reset hd]
  case divStore =>
    rintro rfl hd
    rw [writeByte_owned ⟨rfl, rfl⟩, busStore_timer rfl, Timer.writeReg_div_store hd]
  case tima | tma | tac | ie =>
    rintro rfl
    rfl

theorem joinBytes_eq_ofNat (hi lo : Byte) : joinBytes hi lo = BitVec.ofNat 16 (lo.toNat + 256 * hi.toNat) := by
  apply BitVec.eq_of_toNat_eq
  rw [toNat_joinBytes, BitVec.toNat_ofNat]
  omega

/-- Settles O25: a word access is the bind of two byte accesses, so what each of them gives decides it. -/
theorem wordAccessIsTwoByteAccesses : Obligations.WordAccessIsTwoByteAccesses := by
  simp only [Obligations.WordAccessIsTwoByteAccesses, ← loByte_eq_ofNat, ← hiByte_eq_ofNat, ← joinBytes_eq_ofNat]
  refine ⟨fun addr s s1 s2 lo hi h1 h2 => ?_, fun addr v s s1 s2 h1 h2 => ?_, fun addr v s e h1 => ?_,
    fun addr v s s1 e h1 h2 => ?_, fun addr s e h1 => ?_, fun addr s s1 lo e h1 h2 => ?_⟩
  · rw [readWord, h1, Res.bind_ok, h2, Res.bind_ok]
  · rw [writeWord, h1, Res.bind_ok, h2]
  · rw [writeWord, h1, Res.bind_fault]
  · rw [writeWord, h1, Res.bind_ok, h2]
  · rw [readWord, h1, Res.bind_fault]
  · rw [readWord, h1, Res.bind_ok, h2, Res.bind_fault]

/-! ## Reading back what was written -/

/-- A cell of enabled cartridge RAM inside its size reads back the bits of the byte that the controller keeps (R71,
R78). -/
theorem Cart.readRam_writeRam_same {k : Cart} {addr : Word} (hwf : Memory.wf k.cram = true)
    (hon : k.ctrl.ramEnabled = true) (hlt : k.ramOffset addr < k.ramSize) (v : Byte) :
    (k.writeRam addr v).readRam addr = v &&& k.ctrl.ramMask := by
  have hput : k.writeRam addr v = { k with cram := Memory.write k.cram (k.ramOffset addr) (v &&& k.ctrl.ramMask) } := by
    rw [writeRam, if_pos hon, cramPut, if_pos hlt]
  have hoff : (k.writeRam addr v).ramOffset addr = k.ramOffset addr := by
    rw [hput]
    rfl
  rw [(Cart.ram_enabled (by rw [hput]; exact hon) v).1, hoff, hput, cramAt, if_pos hlt, Memory.read_write_same hwf,
    BitVec.and_assoc, BitVec.and_self]

theorem busValue_busStore_cartRam {s : State} {addr : Word} (hs : s.Inv) (hr : regionOf addr = .cartRam)
    (hon : s.cart.ctrl.ramEnabled = true) (hlt : s.cart.ramOffset addr < s.cart.ramSize) (v : Byte) :
    busValue addr (busStore addr v s) = v &&& s.cart.ctrl.ramMask := by
  rw [busValue_cartRam hr, busStore_cartRam hr]
  exact Cart.readRam_writeRam_same hs.cram.canonical hon hlt v

/-- Settles O26: work RAM and high RAM by the byte array's read after a write, cartridge RAM by the controller's, the
registers at once. -/
theorem readGivesTheLastByteWritten : Obligations.ReadGivesTheLastByteWritten := by
  intro addr v s hs
  refine ⟨fun h => ?plain, fun r hc hon hin hlt => ?combo, fun r hc hon hin hlt => ?ramonly⟩
  case plain =>
    rcases h with hw | hh | rfl | rfl | rfl
    · have hr := regionOf_workRam.2 hw
      rw [busValue_workRam hr, busStore_workRam hr]
      exact Memory.read_write_same hs.wram.canonical _ v
    · by_cases hlast : addr.toNat < 0xFFFF
      · have hr := regionOf_highRam.2 ⟨hh, hlast⟩
        rw [busValue_highRam hr, busStore_highRam hr]
        exact Memory.read_write_same hs.hram.canonical _ v
      · have hr : regionOf addr = .interruptEnable := regionOf_interruptEnable.2 (by omega)
        rw [busValue_interruptEnable hr, busStore_interruptEnable hr]
    · rfl
    · rfl
    · rfl
  case combo =>
    rw [busValue_busStore_cartRam hs (regionOf_cartRam.2 hin) (by rw [hc]; exact hon) hlt, hc]
    exact BitVec.and_allOnes
  case ramonly =>
    rw [busValue_busStore_cartRam hs (regionOf_cartRam.2 hin) (by rw [hc]; exact hon) hlt, hc]
    exact toNat_lowNibble v

end Sys2Proof.Machine
end

section
/-! Frames of the instructions that store (spec/20_memory.md R53, R81, R83, R85; spec/60_exceptions.md R311): the memory
frame is built up store by store, and ended by the tick. -/

namespace Sys2Proof.Machine

/-! ## What a Bus write leaves alone, by its row -/

theorem busStore_cram {a : Word} (h : regionOf a ≠ .cartRam) (v : Byte) (s : State) :
    (busStore a v s).cart.cram = s.cart.cram := by
  unfold busStore
  split
  case h_2 hr => exact absurd hr h
  all_goals rfl

theorem busStore_ctrl {a : Word} (h : regionOf a ≠ .rom) (v : Byte) (s : State) :
    (busStore a v s).cart.ctrl = s.cart.ctrl := by
  unfold busStore
  split
  case h_1 hr => exact absurd hr h
  case h_2 =>
    obtain ⟨-, -, -, hctrl⟩ := Cart.writeRam_fields a v s.cart
    exact hctrl
  all_goals rfl

theorem busStore_timer_eq {a : Word} (h : regionOf a ≠ .timer) (v : Byte) (s : State) :
    (busStore a v s).timer = s.timer := by
  unfold busStore
  split
  case h_4 hr => exact absurd hr h
  all_goals rfl

theorem busStore_extWrites {a : Word} (h : external a = false) (v : Byte) (s : State) :
    (busStore a v s).extWrites = s.extWrites := by
  cases hr : regionOf a with
  | videoRam | spriteAttr | ioExternal => simp [external, hr] at h
  | _ => simp only [busStore, hr]

theorem busStore_rom_sizes (a : Word) (v : Byte) (s : State) : (busStore a v s).cart.rom = s.cart.rom ∧
    (busStore a v s).cart.romSize = s.cart.romSize ∧ (busStore a v s).cart.ramSize = s.cart.ramSize := by
  have h := fixed_busStore a v s
  simp only [State.fixed, Prod.mk.injEq] at h
  obtain ⟨-, hrom, hromSize, hramSize, -⟩ := h
  exact ⟨hrom, hromSize, hramSize⟩

/-! ## The reach of a store -/

theorem Cart.ramOffset_congr {k k' : Cart} (h : k'.ctrl = k.ctrl) (x : Word) : k'.ramOffset x = k.ramOffset x := by
  simp only [ramOffset, h]

/-- What a store reaches depends on the state through the controller only, and for cartridge RAM only. -/
theorem storeReaches_congr {s u : State} {x : Word} (h : regionOf x = .cartRam → u.cart.ctrl = s.cart.ctrl) (a : Word) :
    storeReaches u a x = storeReaches s a x := by
  by_cases hx : regionOf x = .cartRam
  · simp only [storeReaches, Cart.ramOffset_congr (h hx)]
  · simp only [storeReaches, beq_eq_false_iff_ne.2 hx, Bool.and_false, Bool.false_and]

/-- A control write reaches all of cartridge RAM (R85). -/
theorem storeReaches_of_rom {a x : Word} (ha : regionOf a = .rom) (hx : regionOf x = .cartRam) (s : State) :
    storeReaches s a x = true := by
  simp [storeReaches, ha, hx]

/-! ## The memory frame, store by store -/

/-- The memory frame before the tick: `StoresOnly` with the timer and the count of cycles as before. -/
structure Stored (as : List Word) (s u : State) : Prop where
  bytes : ∀ x, steady x = true → (∀ a ∈ as, storeReaches s a x = false) → busValue x u = busValue x s
  rom : u.cart.rom = s.cart.rom ∧ u.cart.romSize = s.cart.romSize ∧ u.cart.ramSize = s.cart.ramSize
  cram : (∀ a ∈ as, regionOf a ≠ .cartRam) → u.cart.cram = s.cart.cram
  ctrl : (∀ a ∈ as, regionOf a ≠ .rom) → u.cart.ctrl = s.cart.ctrl
  extWrites : (∀ a ∈ as, external a = false) → u.extWrites = s.extWrites
  timer : (∀ a ∈ as, regionOf a ≠ .timer) → u.timer = s.timer
  elapsed : u.elapsed = s.elapsed

namespace Stored

variable {as : List Word} {s u t : State}

/-- Nothing stored yet. -/
theorem refl (s : State) : Stored [] s s where
  bytes _ _ _ := rfl
  rom := ⟨rfl, rfl, rfl⟩
  cram _ := rfl
  ctrl _ := rfl
  extWrites _ := rfl
  timer _ := rfl
  elapsed := rfl

/-- A register update or a read. -/
theorem update (k : Stored as s u) (h : t.storage = u.storage) : Stored as s t := by
  simp only [State.storage, Prod.mk.injEq] at h
  obtain ⟨⟨hwram, hhram, hie, hcart⟩, htimer, hext, helapsed⟩ := h
  exact {
    bytes := fun x hx has =>
      (busValue_congr hx hwram hhram hie hcart (by rw [htimer]) (by rw [htimer])).trans (k.bytes x hx has)
    rom := hcart ▸ k.rom
    cram := fun ha => hcart ▸ k.cram ha
    ctrl := fun ha => hcart ▸ k.ctrl ha
    extWrites := fun ha => hext.trans (k.extWrites ha)
    timer := fun ha => htimer.trans (k.timer ha)
    elapsed := helapsed.trans k.elapsed }

/-- An address that the stores so far do not reach is reached by the next as it was at the start: a store that changed
the controller would have reached it. -/
theorem storeReaches_eq (k : Stored as s u) {x : Word} (hx : ∀ a ∈ as, storeReaches s a x = false) (b : Word) :
    storeReaches u b x = storeReaches s b x := by
  refine storeReaches_congr (fun hr => k.ctrl fun a ha harom => ?_) b
  have hreach := storeReaches_of_rom harom hr s
  rw [hx a ha] at hreach
  cases hreach

theorem forall_mem_snoc {P : Word → Prop} {b : Word} (h : ∀ a ∈ as ++ [b], P a) : (∀ a ∈ as, P a) ∧ P b := by
  rwa [List.forall_mem_append, List.forall_mem_singleton] at h

/-- One more store. -/
theorem store (k : Stored as s u) (b : Word) (v : Byte) : Stored (as ++ [b]) s (busStore b v u) where
  bytes x hx h := by
    obtain ⟨has, hb⟩ := forall_mem_snoc h
    rw [← k.storeReaches_eq has] at hb
    exact (busValue_busStore_other hx hb v).trans (k.bytes x hx has)
  rom := by
    obtain ⟨hrom, hromSize, hramSize⟩ := busStore_rom_sizes b v u
    rw [hrom, hromSize, hramSize]
    exact k.rom
  cram h := (busStore_cram (forall_mem_snoc h).2 v u).trans (k.cram (forall_mem_snoc h).1)
  ctrl h := (busStore_ctrl (forall_mem_snoc h).2 v u).trans (k.ctrl (forall_mem_snoc h).1)
  extWrites h := (busStore_extWrites (forall_mem_snoc h).2 v u).trans (k.extWrites (forall_mem_snoc h).1)
  timer h := (busStore_timer_eq (forall_mem_snoc h).2 v u).trans (k.timer (forall_mem_snoc h).1)
  elapsed := (busStore_elapsed b v u).trans k.elapsed

/-- The tick at the end. -/
theorem retired (k : Stored as s u) (p : Word) (c : Nat) : StoresOnly as s (u.retired p c) where
  bytes x hx has := (busValue_retired hx p c u).trans (k.bytes x hx has)
  rom := k.rom
  cram := k.cram
  ctrl := k.ctrl
  extWrites := k.extWrites
  timer ha := by rw [State.retired_timer, State.retired_elapsed, k.timer ha, k.elapsed, Nat.add_sub_cancel_left]

end Stored

/-! ## The frame of an outcome -/

/-- The register frame after a Bus write, which touches no register. -/
theorem RegistersKept.busStore {w : Writes} {s u : State} (k : RegistersKept w s u) (addr : Word) (v : Byte) :
    RegistersKept w s (busStore addr v u) :=
  k.update (fun q _ => reg_busStore q addr v u) (by simp) (by simp) (by simp) (by simp) (by simp)

@[simp] theorem hl_busAfterRead (addr : Word) (s : State) : (busAfterRead addr s).hl = s.hl := by
  simp [State.hl]

/-- A word write that succeeds is two byte writes, the low byte first (R52). -/
theorem writeWord_eq_ok {addr v : Word} {s t : State} {x : Unit} (h : writeWord addr v s = .ok x t) :
    wordAccessible addr = true ∧ t = busStore (addr + 1) (hiByte v) (busStore addr (loByte v) s) := by
  unfold writeWord at h
  cases h1 : writeByte addr (loByte v) s with
  | ok y u =>
    rw [h1, Res.bind_ok] at h
    obtain ⟨hp1, rfl⟩ := writeByte_eq_ok h1
    obtain ⟨hp2, rfl⟩ := writeByte_eq_ok h
    exact ⟨by rw [wordAccessible, hp1, hp2]; rfl, rfl⟩
  | fault e =>
    rw [h1] at h
    cases h

/-- A next state, if the outcome is one, has the register frame w and has stored to the addresses as only. -/
def StoredOut (w : Writes) (as : List Word) (s : State) (o : Out) : Prop :=
  ∀ t, o = .next t → RegistersKept w s t ∧ StoresOnly as s t

theorem StoredOut.finish {w : Writes} {as : List Word} {s u : State} {p : Word} {c : Nat} (hr : RegistersKept w s u)
    (hm : Stored as s u) : StoredOut w as s (Machine.finish p c u) := by
  intro t h
  cases h
  exact ⟨hr.retired p c, hm.retired p c⟩

/-- One store, then register updates and the end of the instruction. -/
theorem StoredOut.store {w : Writes} {s u : State} {a b p : Word} {v : Byte} {c : Nat} {k : State → State}
    (hr : RegistersKept w s (k (busStore b v u))) (hu : u.storage = s.storage := by simp) (hb : b = a := by simp)
    (hk : ∀ t, (k t).storage = t.storage := by simp) :
    StoredOut w [a] s ((writeByte b v u).andThen fun _ t => Machine.finish p c (k t)) := by
  intro t h
  obtain ⟨_, t', hwrite, hnext⟩ := Res.andThen_next h
  obtain ⟨-, rfl⟩ := writeByte_eq_ok hwrite
  have hm : Stored [b] s (busStore b v u) := ((Stored.refl s).update hu).store b v
  exact StoredOut.finish hr (hb ▸ hm.update (hk _)) t hnext

/-- The byte is read before it is stored. -/
theorem StoredOut.load {w : Writes} {as : List Word} {s u : State} {a : Word} {k : Byte → State → Out}
    (hk : ∀ v, StoredOut w as s (k v (busAfterRead a u))) : StoredOut w as s ((readByte a u).andThen k) := by
  intro t h
  obtain ⟨v, t', hread, hnext⟩ := Res.andThen_next h
  obtain ⟨-, -, rfl⟩ := readByte_eq_ok hread
  exact hk v t hnext

/-- A word stored, then the end of the instruction. -/
theorem StoredOut.storeWord {w : Writes} {s u : State} {a v p : Word} {c : Nat} (hr : RegistersKept w s u)
    (hu : u.storage = s.storage) :
    StoredOut w [a, a + 1] s ((writeWord a v u).andThen fun _ t => Machine.finish p c t) := by
  intro t h
  obtain ⟨_, t', hwrite, hnext⟩ := Res.andThen_next h
  obtain ⟨-, rfl⟩ := writeWord_eq_ok hwrite
  have hm : Stored [a, a + 1] s (busStore (a + 1) (hiByte v) (busStore a (loByte v) u)) :=
    (((Stored.refl s).update hu).store a _).store (a + 1) _
  exact StoredOut.finish ((hr.busStore a _).busStore (a + 1) _) hm t hnext

/-- The register frame right after one store by an instruction that has not read. -/
theorem RegistersKept.stored {rs : List Reg8} {sp ime st : Bool} (addr len : Word) (v : Byte) (s : State) :
    RegistersKept ⟨rs, [], sp, ime, st⟩ s (Machine.busStore addr v (s.fetched len)) :=
  ((RegistersKept.refl s).fetched len).busStore addr v

/-- Each form stores to its addresses, a read-modify-write after reading HL, then ends with the updates its rule
names. -/
theorem storeForm_stored {i : Instr} {addrs : State → List Word} {w : Writes} (hf : StoreForm i addrs w) (s : State) :
    StoredOut w (addrs s) s (exec i s) := by
  rw [exec_eq_runShape]
  cases hf with
  | ldIndReg r =>
    rw [Instr.shape_ofLdIndReg]
    exact .store (.stored _ _ _ s)
  | ldPairA p =>
    rw [Instr.shape_ofLdPairA]
    exact .store (.stored _ _ _ s)
  | ldIndImm | ldAbsA | ldhA | ldCA => exact .store (.stored _ _ _ s)
  | ldIncA | ldDecA => exact .store ((RegistersKept.stored _ _ _ s).setHL (fun _ h => h) _)
  | ldAbsSP n => exact .storeWord ((RegistersKept.refl s).fetched 1) rfl
  | incInd => exact .load fun _ => .store (((RegistersKept.loaded _ _ s).busStore _ _).setIncFlags _)
  | decInd => exact .load fun _ => .store (((RegistersKept.loaded _ _ s).busStore _ _).setDecFlags _)
  | rot op =>
    rw [Instr.shape_ofRot]
    exact .load fun _ => .store (((RegistersKept.loaded _ _ s).busStore _ _).setAllFlags _ _ _ _)
  | res y =>
    rw [Instr.shape_ofRes]
    exact .load fun _ => .store ((RegistersKept.loaded _ _ s).busStore _ _)
  | set y =>
    rw [Instr.shape_ofSet]
    exact .load fun _ => .store ((RegistersKept.loaded _ _ s).busStore _ _)

/-- Settles O21, form by form. -/
theorem frameOfStoreForms : Obligations.FrameOfStoreForms :=
  fun _ _ _ s t hf h => storeForm_stored hf s t h

end Sys2Proof.Machine
end

section
/-! The encoding and the fetch (spec/30_encoding.md R100 to R114, spec/45_misc.md R278): the decoder and the encoder undo
each other, an instruction's length is its advance of PC, a step runs what the bytes at PC decode to, and a prohibited
byte ends the fetch. -/

namespace Sys2Proof

/-! ## Decoding and encoding (R107 to R109) -/

/-- Settles O4: the encoding of an instruction is written out in its constructor and the opcode maps are looked up in it;
only a 16-bit immediate has to be joined again from its two bytes. -/
theorem decodeOfEncodeIsTheInstruction : Obligations.DecodeOfEncodeIsTheInstruction := by
  intro i rest
  cases i with
  | ld_BC_n16 n => exact Laws.RoundTrip.ld_BC_n16 n rest
  | ld_DE_n16 n => exact Laws.RoundTrip.ld_DE_n16 n rest
  | ld_HL_n16 n => exact Laws.RoundTrip.ld_HL_n16 n rest
  | ld_SP_n16 n => exact Laws.RoundTrip.ld_SP_n16 n rest
  | ld_indN16_SP n => exact Laws.RoundTrip.ld_indN16_SP n rest
  | ld_indN16_A n => exact Laws.RoundTrip.ld_indN16_A n rest
  | ld_A_indN16 n => exact Laws.RoundTrip.ld_A_indN16 n rest
  | jp_n16 n => exact Laws.RoundTrip.jp_n16 n rest
  | jp_NZ_n16 n => exact Laws.RoundTrip.jp_NZ_n16 n rest
  | jp_Z_n16 n => exact Laws.RoundTrip.jp_Z_n16 n rest
  | jp_NC_n16 n => exact Laws.RoundTrip.jp_NC_n16 n rest
  | jp_C_n16 n => exact Laws.RoundTrip.jp_C_n16 n rest
  | call_n16 n => exact Laws.RoundTrip.call_n16 n rest
  | call_NZ_n16 n => exact Laws.RoundTrip.call_NZ_n16 n rest
  | call_Z_n16 n => exact Laws.RoundTrip.call_Z_n16 n rest
  | call_NC_n16 n => exact Laws.RoundTrip.call_NC_n16 n rest
  | call_C_n16 n => exact Laws.RoundTrip.call_C_n16 n rest
  | _ => rfl

/-- What an instruction other than STOP is read from. -/
theorem readFrom_of_encode {bytes rest : List Byte} {i : Instr} (h : bytes = encode i ++ rest ∧ i ≠ .stop) :
    (i ≠ .stop → bytes = encode i ++ rest) ∧ (i = .stop → bytes.head? = some 0x10 ∧ rest = bytes.tail.tail) :=
  ⟨fun _ => h.1, fun hs => absurd hs h.2⟩

/-- Settles O5: the entry of the first byte agrees with the encoder, entry by entry. -/
theorem decodedBytesAreTheEncoding : Obligations.DecodedBytesAreTheEncoding := by
  intro bytes i rest h
  cases bytes with
  | nil => cases h
  | cons b0 tl =>
    have agrees := entryOf_agrees b0
    simp only [decode] at h
    generalize entryOf b0 = entry at h agrees
    cases entry with
    | op j =>
      cases h
      exact readFrom_of_encode ⟨by rw [agrees.1]; rfl, agrees.2⟩
    | opSkip j =>
      cases h
      exact ⟨fun hne => absurd agrees.1 hne, fun _ => ⟨congrArg some agrees.2, rfl⟩⟩
    | imm8 mk =>
      match tl, h with
      | n :: _, rfl => exact readFrom_of_encode ⟨by rw [(agrees n).1]; rfl, (agrees n).2⟩
    | imm16 mk =>
      match tl, h with
      | lo :: hi :: _, rfl =>
        obtain ⟨henc, hne⟩ := agrees (joinBytes hi lo)
        exact readFrom_of_encode ⟨by rw [henc, Machine.loByte_joinBytes, Machine.hiByte_joinBytes]; rfl, hne⟩
    | cbPrefix =>
      match tl, h with
      | b1 :: _, rfl =>
        obtain ⟨henc, hne⟩ := cbEntry_agrees b1
        exact readFrom_of_encode ⟨by rw [henc, agrees]; rfl, hne⟩

/-- Settles O6: each word is the encoding of its instruction, so O4 decodes it. -/
theorem specWordsDecodeToTheirInstructions : Obligations.SpecWordsDecodeToTheirInstructions :=
  have word (i : Instr) : decode (encode i ++ []) = .instr i [] := decodeOfEncodeIsTheInstruction i []
  ⟨word (.ld_A_n8 0x05), word (.ld_B_n8 0x03), word .add_A_B, word .stop, word (.ld_BC_n16 0x1234), word .ld_B_C,
    word .ld_H_indHL, word .halt, word .sbc_A_H, word (.jr_NZ_e8 0xFC), word (.call_n16 0x0010), word .rst_28,
    word (.ldh_indN8_A 0x07), word .pop_AF, word .bit_7_H, word .rlc_indHL, word .res_0_A, word .set_7_indHL,
    word .illegal_D3⟩

/-! ## The length of an instruction (R107, R111) -/

/-- How many bytes an instruction of a shape is long. -/
def Shape.length : Shape → Nat
  | ldRegImm _ _ | ldIndImm _ | ldhA _ | ldhStA _ | ldHLSP _ | aluImm _ _ | addSP _ | rotR8 _ _ | bitR8 _ _
  | resR8 _ _ | setR8 _ _ | jr _ | jrCond _ _ | stop => 2
  | ldAAbs _ | ldAbsA _ | ldPairImm _ _ | ldAbsSP _ | jp _ | jpCond _ _ | call _ | callCond _ _ => 3
  | _ => 1

theorem Instr.length_eq_shape_length (i : Instr) : i.length = i.shape.length := by
  cases i <;> rfl

/-! ## Which codes are unassigned (R103, R114) -/

theorem Instr.wellFormed_eq_false {i : Instr} : i.wellFormed = false ↔ i ∈ Instr.unassigned := by
  simp [Instr.wellFormed]

/-- Each unassigned code is one byte long (R114). -/
theorem encode_unassigned : ∀ i ∈ Instr.unassigned, ∃ b ∈ [0xD3#8, 0xDB#8, 0xDD#8, 0xE3#8, 0xE4#8, 0xEB#8, 0xEC#8,
    0xED#8, 0xF4#8, 0xFC#8, 0xFD#8], encode i = [b] := by
  decide

namespace Machine

/-- A next state, if the outcome is one, has PC at p. -/
def EndsAt (p : Word) (o : Out) : Prop := ∀ t, o = .next t → t.pc = p

theorem EndsAt.finish {p : Word} {c : Nat} {s : State} : EndsAt p (Machine.finish p c s) := by
  intro t h
  cases h
  rfl

theorem EndsAt.fault {p : Word} {e : Fault} : EndsAt p (.fault e) := by
  intro t h
  cases h

theorem EndsAt.andThen {p : Word} {α : Type} {r : Res α} {k : α → State → Out} (hk : ∀ x u, EndsAt p (k x u)) :
    EndsAt p (r.andThen k) := by
  intro t h
  obtain ⟨x, u, -, hnext⟩ := Res.andThen_next h
  exact hk x u t hnext

/-- Every operation but the transfers ends with PC past its instruction's bytes (R111). -/
theorem shape_endsAt_length {sh : Shape} (hsh : ¬ ControlFlow sh.instr) (s : State) :
    EndsAt (s.pc + BitVec.ofNat 16 sh.length) (runShape s sh) := by
  cases sh with
  | jp n => exact absurd (.jp n) hsh
  | jpHL => exact absurd .jpHL hsh
  | jpCond cc n => exact absurd (.jpCond cc n) hsh
  | jr e => exact absurd (.jr e) hsh
  | jrCond cc e => exact absurd (.jrCond cc e) hsh
  | call n => exact absurd (.call n) hsh
  | callCond cc n => exact absurd (.callCond cc n) hsh
  | ret => exact absurd .ret hsh
  | retCond cc => exact absurd (.retCond cc) hsh
  | reti => exact absurd .reti hsh
  | restart y => exact absurd (.rst y) hsh
  | ldRegInd | ldIndReg | ldIndImm | ldAPair | ldPairA | ldAAbs | ldAbsA | ldhA | ldhStA | ldAC | ldCA | ldIncA | ldDecA
  | ldAInc | ldADec | ldAbsSP | aluR8 | bitR8 | pushPair | popPair => exact .andThen fun _ _ => .finish
  | incInd | decInd | rotR8 | resR8 | setR8 => exact .andThen fun _ _ => .andThen fun _ _ => .finish
  | illegalCode => exact .fault
  | _ => exact .finish

/-- Settles O18, shape by shape. -/
theorem otherInstructionsAdvanceByTheirLength : Obligations.OtherInstructionsAdvanceByTheirLength := by
  intro i s t hi h
  rw [exec_eq_runShape] at h
  rw [i.length_eq_shape_length]
  exact shape_endsAt_length (i.instr_shape.symm ▸ hi) s t h

/-! ## The step (R100, R102, R305) -/

theorem step_running {s : State} (h : s.status = .running) : step s = runFetched (fetchInstr s) := by
  rw [step, h]

/-- Settles O7: a step runs what it fetches, and the fetch reads the instruction that the bytes decode to. -/
theorem stepRunsTheDecodedInstruction : Obligations.StepRunsTheDecodedInstruction := by
  refine ⟨fun s i rest hrun hdec hown => ?_, fun s i rest hrun hdec hread => ?_⟩
  · rw [step_running hrun, fetchInstr_own hdec hown]
    rfl
  · rw [step_running hrun, fetchInstr_readable hdec hread]
    rfl

/-- A second byte that the entry asks for and that is prohibited ends the step. -/
theorem step_second_prohibited {s : State} (hrun : s.status = .running) (h0 : prohibited s.pc = false)
    (h1 : prohibited (s.pc + 1) = true)
    (hentry : (∃ mk, entryOf (busValue s.pc s) = .imm8 mk) ∨ (∃ mk, entryOf (busValue s.pc s) = .imm16 mk) ∨
      entryOf (busValue s.pc s) = .cbPrefix) :
    step s = .fault (raise (.prohibitedAccess (s.pc + 1) .read) { busAfterRead s.pc s with pc := s.pc + 1 }) := by
  rw [step_running hrun, fetchInstr, fetchByte_ok h0, Res.bind_ok]
  obtain ⟨mk, h⟩ | ⟨mk, h⟩ | h := hentry <;> simp only [h, fetchByte_fault h1, Res.bind_fault, runFetched]

/-- Settles O8: the fetch stops at the first prohibited byte that the entry asks for. -/
theorem fetchFromProhibitedAddressFaults : Obligations.FetchFromProhibitedAddressFaults := by
  refine fun s hrun => ⟨fun h0 => ?first, fun h0 h1 => ?second, fun h0 h1 h2 mk h => ?third⟩
  case first =>
    rw [step_running hrun, fetchInstr, fetchByte_fault h0, Res.bind_fault]
    rfl
  case second =>
    exact ⟨fun mk h => step_second_prohibited hrun h0 h1 (.inl ⟨mk, h⟩),
      fun mk h => step_second_prohibited hrun h0 h1 (.inr (.inl ⟨mk, h⟩)),
      fun h => step_second_prohibited hrun h0 h1 (.inr (.inr h))⟩
  case third =>
    rw [step_running hrun, fetchInstr, fetchByte_ok h0, Res.bind_ok]
    simp only [h, fetchByte_ok h1, Res.bind_ok, fetchByte_fault h2, Res.bind_fault, runFetched]

/-! ## The meaning of the unassigned codes (R114) -/

/-- An unassigned code stops with IllegalOpcode, after the fetch-time advance alone (R102, R114). -/
theorem unassigned_stops {i : Instr} {b : Byte} (hmem : i ∈ Instr.unassigned) (henc : encode i = [b])
    (hsh : i.shape = .illegalCode (b.setWidth 16)) :
    encode i = [b] ∧ i.wellFormed = false ∧
      ∀ s : State, exec i s = .fault (raise (.illegalOpcode s.pc (b.setWidth 16)) { s with pc := s.pc + 1 }) := by
  refine ⟨henc, Instr.wellFormed_eq_false.2 hmem, fun s => ?_⟩
  rw [exec_eq_runShape, hsh]
  rfl

/-- Settles O58, code by code; that there is no other is what `wellFormed` checks. -/
theorem unassignedCodesRaiseIllegalOpcode : Obligations.UnassignedCodesRaiseIllegalOpcode := by
  refine ⟨fun p hp => ?_, fun i hi => encode_unassigned i (Instr.wellFormed_eq_false.1 hi)⟩
  fin_cases hp <;> exact unassigned_stops (by decide) rfl rfl

end Machine
end Sys2Proof
end

section
/-! The ALU helper as integer arithmetic (spec/40_alu.md R130 to R132): results modulo the width, and the carries and
borrows out of the low bit fields, at any width and any bit position. -/

namespace Sys2Proof.Machine

variable {w : Nat} (x y : BitVec w) (cin : Bool) (hb cb : Nat)

/-! ## Addition (R130, R132) -/

/-- The helper's "exceeds the sub-field's mask" is "reaches the field's size". -/
theorem fieldMask_lt_iff (b n : Nat) : 2 ^ b - 1 < n ↔ n ≥ 2 ^ b := by
  have hpos : 0 < 2 ^ b := Nat.two_pow_pos b
  omega

theorem toNat_aluAdd_result :
    (aluAdd x y cin hb cb).result.toNat = (x.toNat + y.toNat + cin.toNat) % 2 ^ w :=
  BitVec.toNat_ofNat _ _

theorem aluAdd_half_iff :
    (aluAdd x y cin hb cb).half = true ↔ x.toNat % 2 ^ hb + y.toNat % 2 ^ hb + cin.toNat ≥ 2 ^ hb :=
  decide_eq_true_iff.trans (fieldMask_lt_iff hb _)

theorem aluAdd_carry_iff :
    (aluAdd x y cin hb cb).carry = true ↔ x.toNat % 2 ^ cb + y.toNat % 2 ^ cb + cin.toNat ≥ 2 ^ cb :=
  decide_eq_true_iff.trans (fieldMask_lt_iff cb _)

theorem aluAdd_zero_iff :
    (aluAdd x y cin hb cb).zero = true ↔ (aluAdd x y cin hb cb).result = BitVec.ofNat w 0 :=
  beq_iff_eq

/-- Settles O33: each field of the tuple by its own lemma, Z through the number that the result is. -/
theorem aluAdditionIsExact : Obligations.AluAdditionIsExact := by
  refine fun w x y cin hb cb =>
    ⟨toNat_aluAdd_result x y cin hb cb, aluAdd_half_iff x y cin hb cb, aluAdd_carry_iff x y cin hb cb, ?_⟩
  rw [aluAdd_zero_iff, ← BitVec.toNat_inj, toNat_aluAdd_result, BitVec.toNat_ofNat, Nat.zero_mod]

/-! ## Subtraction (R131, R132) -/

/-- A difference of words is the integer difference modulo the width: the 2^w that keeps the naturals from going below 0
is a multiple of the modulus. -/
theorem natCast_toNat_sub : ((x - y).toNat : Int) = ((x.toNat : Int) - (y.toNat : Int)) % (2 : Int) ^ w := by
  have hy : y.toNat ≤ 2 ^ w := y.isLt.le
  calc ((x - y).toNat : Int)
      = ((2 : Int) ^ w - y.toNat + x.toNat) % 2 ^ w := by rw [BitVec.toNat_sub]; push_cast [hy]; rfl
    _ = ((x.toNat : Int) - y.toNat + 2 ^ w) % 2 ^ w := by congr 1; ring
    _ = ((x.toNat : Int) - y.toNat) % 2 ^ w := Int.add_emod_right _ _

theorem natCast_toNat_aluSub_result :
    ((aluSub x y cin hb cb).result.toNat : Int) =
      ((x.toNat : Int) - (y.toNat : Int) - (cin.toNat : Int)) % (2 : Int) ^ w := by
  have hcin : ((BitVec.ofNat w cin.toNat).toNat : Int) = (cin.toNat : Int) % 2 ^ w := by
    rw [BitVec.toNat_ofNat]
    push_cast
    rfl
  calc ((x - y - BitVec.ofNat w cin.toNat).toNat : Int)
      = (((x.toNat : Int) - y.toNat) % 2 ^ w - (cin.toNat : Int) % 2 ^ w) % 2 ^ w := by
        rw [natCast_toNat_sub, natCast_toNat_sub, hcin]
    _ = ((x.toNat : Int) - y.toNat - cin.toNat) % 2 ^ w := (Int.sub_emod _ _ _).symm

theorem aluSub_half_iff :
    (aluSub x y cin hb cb).half = true ↔ x.toNat % 2 ^ hb < y.toNat % 2 ^ hb + cin.toNat :=
  decide_eq_true_iff

theorem aluSub_carry_iff :
    (aluSub x y cin hb cb).carry = true ↔ x.toNat % 2 ^ cb < y.toNat % 2 ^ cb + cin.toNat :=
  decide_eq_true_iff

theorem aluSub_zero_iff :
    (aluSub x y cin hb cb).zero = true ↔ (aluSub x y cin hb cb).result = BitVec.ofNat w 0 :=
  beq_iff_eq

/-- Settles O34: each field of the tuple by its own lemma; the result is the one that needs integers. -/
theorem aluSubtractionIsExact : Obligations.AluSubtractionIsExact :=
  fun _ x y cin hb cb => ⟨natCast_toNat_aluSub_result x y cin hb cb, aluSub_half_iff x y cin hb cb,
    aluSub_carry_iff x y cin hb cb, aluSub_zero_iff x y cin hb cb⟩

end Sys2Proof.Machine
end

section
/-! Loads, stores and moves (spec/41_loads.md R150 to R170; spec/42_arith_logic.md R203): how an instruction ends whose
one data access is a load or a store, then the statements, each clause an encoding and such an ending. -/

namespace Sys2Proof.Machine

/-! ## The end of an instruction with at most one data access (spec/30_encoding.md R100, R111) -/

theorem State.setReg_fetched (r : Reg8) (v : Byte) (n : Word) (s : State) :
    (s.fetched n).setReg r v = (s.setReg r v).fetched n := by
  cases r <;> rfl

/-- An instruction that changes registers only: the tick and the count go on from those before it. -/
theorem finish_of_storage {u s : State} (h : u.storage = s.storage) (p : Word) (c : Nat) :
    finish p c u = .next { u with pc := p, timer := s.timer.tick c, elapsed := s.elapsed + c } := by
  simp only [State.storage, Prod.mk.injEq] at h
  obtain ⟨-, htimer, -, helapsed⟩ := h
  rw [← htimer, ← helapsed]
  rfl

/-- An instruction that loads the byte at addr and then makes the register update g with it, or faults at addr. -/
theorem load_outcome (addr p : Word) (c : Nat) (s : State) {g : Byte → State → State}
    (hfetched : ∀ v u, g v (u.fetched 1) = (g v u).fetched 1 := by intros; rfl)
    (hstorage : ∀ v u, (g v u).storage = u.storage := by simp) :
    (prohibited addr = false → (readByte addr (s.fetched 1)).andThen (fun v t => finish p c (g v t)) =
      .next { g (busValue addr s) (busAfterRead addr s) with
        pc := p, timer := s.timer.tick c, elapsed := s.elapsed + c }) ∧
    (prohibited addr = true → (readByte addr (s.fetched 1)).andThen (fun v t => finish p c (g v t)) =
      .fault (raise (.prohibitedAccess addr .read) { s with pc := s.pc + 1 })) := by
  refine ⟨fun h => ?_, fun h => ?_⟩
  · rw [readByte_ok h, Res.andThen_ok, busValue_fetched, busAfterRead_fetched, hfetched]
    exact finish_of_storage ((hstorage _ _).trans (storage_busAfterRead addr s)) p c
  · rw [readByte_fault h]
    rfl

/-- An instruction that stores v at addr and then makes the register update g, or faults at addr. -/
theorem store_outcome (addr p : Word) (v : Byte) (c : Nat) (s : State) {g : State → State}
    (hfetched : ∀ u, g (u.fetched 1) = (g u).fetched 1 := by intros; rfl)
    (hstorage : ∀ u, (g u).storage = u.storage := by intros; rfl) :
    (prohibited addr = false → (writeByte addr v (s.fetched 1)).andThen (fun _ t => finish p c (g t)) =
      .next { g (busStore addr v s) with
        pc := p, timer := (busStore addr v s).timer.tick c, elapsed := s.elapsed + c }) ∧
    (prohibited addr = true → (writeByte addr v (s.fetched 1)).andThen (fun _ t => finish p c (g t)) =
      .fault (raise (.prohibitedAccess addr .write) { s with pc := s.pc + 1 })) := by
  refine ⟨fun h => ?_, fun h => ?_⟩
  · rw [writeByte_ok h, Res.andThen_ok, busStore_fetched, hfetched, ← busStore_elapsed addr v s]
    exact finish_of_storage (u := (g (busStore addr v s)).fetched 1) (hstorage _) p c
  · rw [writeByte_fault h]
    rfl

/-! ## Registers and immediates -/

theorem encode_ofLdRegReg (dst r : Reg8) :
    encode (.ofLdRegReg dst r) = [BitVec.ofNat 8 (0x40 + 8 * dst.code + r.code)] := by
  cases dst <;> cases r <;> rfl

theorem encode_ofLdRegImm (dst : Reg8) (n : Byte) :
    encode (.ofLdRegImm dst n) = [BitVec.ofNat 8 (0x06 + 8 * dst.code), n] := by
  cases dst <;> rfl

/-- Settles O36: both moves change the destination and nothing in storage. -/
theorem loadRegisterFromRegisterOrImmediate : Obligations.LoadRegisterFromRegisterOrImmediate := by
  refine ⟨fun dst r s => ⟨encode_ofLdRegReg dst r, ?_⟩, fun dst n s => ⟨encode_ofLdRegImm dst n, ?_⟩⟩
  · rw [exec_eq_runShape, Instr.shape_ofLdRegReg]
    exact finish_of_storage (State.storage_setReg dst _ s) _ _
  · rw [exec_eq_runShape, Instr.shape_ofLdRegImm]
    exact finish_of_storage (State.storage_setReg dst n s) _ _

/-- Settles O41: each load is the end of the instruction after one register update, which has no check. -/
theorem loadPairImmediateAndSPFromHL : Obligations.LoadPairImmediateAndSPFromHL := by
  simp only [Obligations.LoadPairImmediateAndSPFromHL, ← loByte_eq_ofNat, ← hiByte_eq_ofNat]
  exact ⟨fun n s => ⟨rfl, rfl, rfl, rfl, rfl, rfl, rfl, rfl⟩, fun s => ⟨rfl, rfl⟩⟩

/-! ## The byte at HL, at a pair, at an absolute address -/

theorem encode_ofLdRegInd (dst : Reg8) : encode (.ofLdRegInd dst) = [BitVec.ofNat 8 (0x46 + 8 * dst.code)] := by
  cases dst <;> rfl

theorem encode_ofLdIndReg (r : Reg8) : encode (.ofLdIndReg r) = [BitVec.ofNat 8 (0x70 + r.code)] := by
  cases r <;> rfl

theorem encode_ofLdAPair (p : AddrPair) : encode (.ofLdAPair p) = [BitVec.ofNat 8 (0x0A + 16 * p.code)] := by
  cases p <;> rfl

theorem encode_ofLdPairA (p : AddrPair) : encode (.ofLdPairA p) = [BitVec.ofNat 8 (0x02 + 16 * p.code)] := by
  cases p <;> rfl

/-- Settles O37: one load and two stores at HL. -/
theorem loadAndStoreAtHL : Obligations.LoadAndStoreAtHL := by
  refine ⟨fun dst s => ⟨encode_ofLdRegInd dst, ?_⟩, fun r s => ⟨encode_ofLdIndReg r, ?_⟩, fun n s => ⟨rfl, ?_⟩⟩
  · rw [exec_eq_runShape, Instr.shape_ofLdRegInd]
    exact load_outcome s.hl _ _ s (hfetched := fun v => State.setReg_fetched dst v 1)
  · rw [exec_eq_runShape, Instr.shape_ofLdIndReg]
    exact store_outcome s.hl _ (s.reg r) _ s
  · exact store_outcome s.hl _ n _ s

/-- Settles O38: a load and a store at a pair, and one of each at an immediate address. -/
theorem loadAndStoreAThroughPairOrAddress : Obligations.LoadAndStoreAThroughPairOrAddress := by
  simp only [Obligations.LoadAndStoreAThroughPairOrAddress, ← loByte_eq_ofNat, ← hiByte_eq_ofNat]
  refine ⟨fun p s => ⟨encode_ofLdAPair p, ?_⟩, fun p s => ⟨encode_ofLdPairA p, ?_⟩, fun s => ⟨rfl, rfl⟩,
    fun n s => ⟨rfl, ?_⟩, fun n s => ⟨rfl, ?_⟩⟩
  · rw [exec_eq_runShape, Instr.shape_ofLdAPair]
    exact load_outcome (s.addrPair p) _ _ s
  · rw [exec_eq_runShape, Instr.shape_ofLdPairA]
    exact store_outcome (s.addrPair p) _ s.a _ s
  · exact load_outcome n _ _ s
  · exact store_outcome n _ s.a _ s

/-! ## The high page -/

theorem highPage_eq_ofNat (x : Byte) : highPage x = BitVec.ofNat 16 (0xFF00 + x.toNat) := by
  apply BitVec.eq_of_toNat_eq
  simp [highPage]

/-- The high page holds no prohibited address (spec/20_memory.md R58). -/
theorem prohibited_highPage (x : Byte) : prohibited (highPage x) = false := by
  have hx := x.isLt
  rw [Bool.eq_false_iff, ne_eq, prohibited_iff, highPage_eq_ofNat, BitVec.toNat_ofNat]
  omega

/-- Settles O39: loads and stores on the high page, where neither faults. -/
theorem loadAndStoreHighPage : Obligations.LoadAndStoreHighPage := by
  simp only [Obligations.LoadAndStoreHighPage, ← highPage_eq_ofNat]
  exact ⟨fun n s => ⟨rfl, (load_outcome _ _ _ s).1 (prohibited_highPage n), rfl,
      (store_outcome _ _ _ _ s).1 (prohibited_highPage n)⟩,
    fun s => ⟨rfl, (load_outcome _ _ _ s).1 (prohibited_highPage s.c), rfl,
      (store_outcome _ _ _ _ s).1 (prohibited_highPage s.c)⟩⟩

/-! ## The byte at HL, and HL stepped -/

/-- Settles O40: the access at HL, then the step as a further register update, which a fault does not reach. -/
theorem loadAndStoreSteppingHL : Obligations.LoadAndStoreSteppingHL := by
  intro s
  rw [sub_eq_add_neg]
  have store (step : Word) (c : Nat) := store_outcome s.hl (s.pc + 1) s.a c s (g := State.setHL (s.hl + step))
  have load (step : Word) (c : Nat) := load_outcome s.hl (s.pc + 1) c s
    (g := fun v u => (u.setReg .a v).setHL (s.hl + step))
  exact ⟨rfl, rfl, rfl, rfl,
    fun h => ⟨(store 1 _).1 h, (store (-1) _).1 h, (load 1 _).1 h, (load (-1) _).1 h⟩,
    fun h => ⟨(store 1 _).2 h, (store (-1) _).2 h, (load 1 _).2 h, (load (-1) _).2 h⟩⟩

/-! ## SP stored to memory -/

/-- A word store whose first byte is accessible goes on as a store of the second (spec/20_memory.md R52). -/
theorem writeWord_fetched_of_low {addr : Word} (h : prohibited addr = false) (v n : Word) (s : State) :
    writeWord addr v (s.fetched n) =
      writeByte (addr + 1) (hiByte v) ((busStore addr (loByte v) s).fetched n) := by
  rw [writeWord, writeByte_ok h, Res.bind_ok, busStore_fetched]

/-- Settles O42: past the low byte, the instruction is a store of the high byte in the state after it. -/
theorem storeSPToMemory : Obligations.StoreSPToMemory := by
  intro n s
  simp only [← loByte_eq_ofNat, ← hiByte_eq_ofNat]
  obtain ⟨high_ok, high_fault⟩ :=
    store_outcome (n + 1) (s.pc + 3) (hiByte s.sp) (s.cycles 0x08 20) (busStore n (loByte s.sp) s) (g := id)
  rw [busStore_elapsed] at high_ok
  rw [busStore_pc] at high_fault
  have exec_eq : exec (.ld_indN16_SP n) s =
      (writeWord n s.sp (s.fetched 1)).andThen fun _ t => finish (s.pc + 3) (s.cycles 0x08 20) t := rfl
  refine ⟨rfl, fun h1 h2 => ?_, fun h1 => ?_, fun h1 h2 => ?_⟩
  · rw [exec_eq, writeWord_fetched_of_low h1]
    exact high_ok h2
  · rw [exec_eq, writeWord, writeByte_fault h1]
    rfl
  · rw [exec_eq, writeWord_fetched_of_low h1]
    exact high_fault h2

/-! ## SP plus a displacement (spec/40_alu.md R133, R134) -/

theorem sext16_eq_signExtend : ∀ e : Byte, sext16 e = e.signExtend 16 := by decide

theorem toNat_sext16_mod : ∀ e : Byte, (sext16 e).toNat % 256 = e.toNat := by decide

theorem addsp_result (x : Word) (e : Byte) : (addsp x e).result = x + e.signExtend 16 := by
  rw [← sext16_eq_signExtend]
  apply BitVec.eq_of_toNat_eq
  exact (toNat_aluAdd_result x (sext16 e) false 4 8).trans (BitVec.toNat_add x (sext16 e)).symm

theorem addsp_half (x : Word) (e : Byte) : (addsp x e).half = decide (15 < x.toNat % 16 + e.toNat % 16) := by
  have h : (sext16 e).toNat % 16 = e.toNat % 16 := by
    rw [← toNat_sext16_mod e]
    omega
  rw [← h]
  rfl

theorem addsp_carry (x : Word) (e : Byte) : (addsp x e).carry = decide (255 < x.toNat % 256 + e.toNat) := by
  rw [← toNat_sext16_mod e]
  rfl

/-- Settles O43: both instructions end with the fields of the displacement addition. -/
theorem stackPointerPlusDisplacement : Obligations.StackPointerPlusDisplacement := by
  intro e s
  simp only [← loByte_eq_ofNat, ← hiByte_eq_ofNat, ← addsp_result, ← addsp_half, ← addsp_carry]
  exact ⟨rfl, rfl, rfl, rfl⟩

end Sys2Proof.Machine
end

section
/-! Arithmetic and logic (spec/42_arith_logic.md R180 to R202): the fields of the 8-bit and 16-bit ALU calls as numbers,
the writes to A, F and HL made of them, and the end of an instruction that modifies one byte in place. -/

namespace Sys2Proof.Machine

/-- A flag that holds exactly when p does is the decision of p. -/
theorem eq_decide_of_iff {b : Bool} {p : Prop} [Decidable p] (h : b = true ↔ p) : b = decide p :=
  Bool.eq_iff_iff.2 (h.trans decide_eq_true_iff.symm)

/-! ## 8-bit addition (spec/40_alu.md R133) -/

section
variable (x y : Byte) (cin : Bool)

theorem add8_result : (add8 x y cin).result = BitVec.ofNat 8 (x.toNat + y.toNat + cin.toNat) := rfl

theorem add8_zero : (add8 x y cin).zero = decide ((x.toNat + y.toNat + cin.toNat) % 256 = 0) := by
  refine eq_decide_of_iff ((aluAdd_zero_iff x y cin 4 8).trans ?_)
  rw [← BitVec.toNat_inj, toNat_aluAdd_result]
  rfl

theorem add8_half : (add8 x y cin).half = decide (15 < x.toNat % 16 + y.toNat % 16 + cin.toNat) := rfl

theorem add8_carry : (add8 x y cin).carry = decide (255 < x.toNat + y.toNat + cin.toNat) := by
  refine eq_decide_of_iff ((aluAdd_carry_iff x y cin 4 8).trans ?_)
  rw [Nat.mod_eq_of_lt x.isLt, Nat.mod_eq_of_lt y.isLt]
  rfl

/-! ## 8-bit subtraction (spec/40_alu.md R131, R133) -/

/-- 512 keeps the naturals from going below 0 and is a multiple of the modulus. -/
theorem toNat_sub8_result : (sub8 x y cin).result.toNat = (512 + x.toNat - y.toNat - cin.toNat) % 256 := by
  have hint := natCast_toNat_aluSub_result x y cin 4 8
  have hy := y.isLt
  have hcin := cin.toNat_le
  change ((sub8 x y cin).result.toNat : Int) = _ at hint
  omega

theorem sub8_result : (sub8 x y cin).result = BitVec.ofNat 8 (512 + x.toNat - y.toNat - cin.toNat) :=
  BitVec.eq_of_toNat_eq (toNat_sub8_result x y cin)

theorem sub8_zero : (sub8 x y cin).zero = decide ((512 + x.toNat - y.toNat - cin.toNat) % 256 = 0) := by
  refine eq_decide_of_iff ((aluSub_zero_iff x y cin 4 8).trans ?_)
  rw [← BitVec.toNat_inj]
  exact Eq.congr_left (toNat_sub8_result x y cin)

theorem sub8_half : (sub8 x y cin).half = decide (x.toNat % 16 < y.toNat % 16 + cin.toNat) := rfl

theorem sub8_carry : (sub8 x y cin).carry = decide (x.toNat < y.toNat + cin.toNat) := by
  refine eq_decide_of_iff ((aluSub_carry_iff x y cin 4 8).trans ?_)
  rw [Nat.mod_eq_of_lt x.isLt, Nat.mod_eq_of_lt y.isLt]

/-! ## 8-bit subtraction without a borrow in -/

theorem sub8_result_false : (sub8 x y false).result = x - y := BitVec.sub_zero (x - y)

theorem sub8_result_false_eq_ofNat : (sub8 x y false).result = BitVec.ofNat 8 (256 + x.toNat - y.toNat) := by
  have hy := y.isLt
  apply BitVec.eq_of_toNat_eq
  rw [toNat_sub8_result, BitVec.toNat_ofNat, Bool.toNat_false]
  omega

theorem sub8_zero_false : (sub8 x y false).zero = decide (x.toNat = y.toNat) := by
  have hx := x.isLt
  have hy := y.isLt
  rw [sub8_zero, Bool.toNat_false, decide_eq_decide]
  omega

end

/-! ## The accumulator and the flags -/

/-- A and F from an ALU tuple whose fields are known. -/
theorem State.setAluA_eq {r : AluResult 8} {v : Byte} {z h c : Bool} (hv : r.result = v) (hz : r.zero = z)
    (hh : r.half = h) (hc : r.carry = c) (n : Bool) (s : State) :
    s.setAluA r n = { s with a := v, f := packFlags z n h c } := by
  subst hv hz hh hc
  rfl

/-- A and F from a logical result whose Z is known. -/
theorem State.setLogicA_eq {r : Byte} {p : Prop} [Decidable p] (hp : r = 0 ↔ p) (h : Bool) (s : State) :
    s.setLogicA r h = { s with a := r, f := packFlags (decide p) false h false } := by
  rw [← eq_decide_of_iff (beq_iff_eq.trans hp)]
  rfl

/-- Settles O35: ADD to SBC and CP by the fields of the ALU call, AND, XOR and OR by when their result is 0. -/
theorem accumulatorOperations : Obligations.AccumulatorOperations := by
  intro v s x y c
  refine ⟨?add, ?adc, ?sub, ?sbc, ?and, ?xor, ?or, ?cp⟩
  case add =>
    exact s.setAluA_eq (add8_result s.a v false) (add8_zero s.a v false) (add8_half s.a v false)
      (add8_carry s.a v false) false
  case adc =>
    exact s.setAluA_eq (add8_result s.a v s.flagC) (add8_zero s.a v s.flagC) (add8_half s.a v s.flagC)
      (add8_carry s.a v s.flagC) false
  case sub =>
    exact s.setAluA_eq (sub8_result_false_eq_ofNat s.a v) (sub8_zero_false s.a v) (sub8_half s.a v false)
      (sub8_carry s.a v false) true
  case sbc =>
    exact s.setAluA_eq (sub8_result s.a v s.flagC) (sub8_zero s.a v s.flagC) (sub8_half s.a v s.flagC)
      (sub8_carry s.a v s.flagC) true
  case and => exact s.setLogicA_eq Iff.rfl true
  case xor => exact s.setLogicA_eq BitVec.xor_eq_zero_iff false
  case or =>
    have hzero : s.a ||| v = 0 ↔ x = 0 ∧ y = 0 := by
      exact BitVec.or_eq_zero_iff.trans (and_congr BitVec.toNat_inj.symm BitVec.toNat_inj.symm)
    exact s.setLogicA_eq hzero false
  case cp =>
    show s.setFlags _ true _ _ = _
    rw [sub8_zero_false, sub8_half, sub8_carry]
    rfl

/-! ## The accumulator instructions -/

theorem aluA_fetched (op : AluOp) (v : Byte) (n : Word) (s : State) :
    aluA op v (s.fetched n) = (aluA op v s).fetched n := by
  cases op <;> rfl

theorem encode_ofAluR8 (op : AluOp) (o : R8) :
    encode (.ofAluR8 op o) = [BitVec.ofNat 8 (0x80 + 8 * op.code + o.code)] := by
  cases op <;> rcases o with (_ | _ | _ | _ | _ | _ | _) | _ <;> rfl

theorem encode_ofAluImm (op : AluOp) (n : Byte) :
    encode (.ofAluImm op n) = [BitVec.ofNat 8 (0xC6 + 8 * op.code), n] := by
  cases op <;> rfl

/-- Settles O44: the register and immediate forms change nothing in storage; the form at HL is one load. -/
theorem accumulatorInstructions : Obligations.AccumulatorInstructions := by
  refine ⟨fun op r s => ⟨encode_ofAluR8 op (.reg r), ?_⟩, fun op s => ⟨?_, ?_⟩,
    fun op n s => ⟨encode_ofAluImm op n, ?_⟩⟩
  · have hexec : exec (.ofAluR8 op (.reg r)) s =
        finish (s.pc + 1) (s.cycles (0x80 + 8 * op.code + r.code) 4) ((aluA op (s.reg r) s).fetched 1) := by
      rw [exec_eq_runShape, Instr.shape_ofAluR8, ← aluA_fetched, ← State.reg_fetched r 1 s]
      rfl
    rw [hexec]
    exact finish_of_storage (storage_aluA op _ s) _ _
  · have hcode : 0x80 + 8 * op.code + 6 = 0x86 + 8 * op.code := by omega
    rw [← hcode]
    exact encode_ofAluR8 op .indHL
  · rw [exec_eq_runShape, Instr.shape_ofAluR8]
    exact load_outcome s.hl _ _ s (hfetched := fun v => aluA_fetched op v 1)
  · rw [exec_eq_runShape, Instr.shape_ofAluImm]
    exact finish_of_storage (storage_aluA op n s) _ _

/-! ## 8-bit INC and DEC -/

theorem add8_one_result (v : Byte) : (add8 v 1 false).result = v + 1 :=
  BitVec.eq_of_toNat_eq (BitVec.toNat_ofNat _ _)

theorem add8_one_zero (v : Byte) : (add8 v 1 false).zero = decide (v.toNat = 255) := by
  have hv := v.isLt
  rw [add8_zero, decide_eq_decide]
  show (v.toNat + 1) % 256 = 0 ↔ _
  omega

theorem add8_one_half (v : Byte) : (add8 v 1 false).half = decide (v.toNat % 16 = 15) := by
  rw [add8_half, decide_eq_decide]
  show 15 < v.toNat % 16 + 1 ↔ _
  omega

theorem sub8_one_half (v : Byte) : (sub8 v 1 false).half = decide (v.toNat % 16 = 0) := by
  rw [sub8_half, decide_eq_decide]
  exact Nat.lt_one_iff

/-- The flags of INC, with Cf as it was (R137). -/
theorem State.setIncFlags_eq (v : Byte) (s : State) : s.setIncFlags v =
    { s with f := packFlags (decide (v.toNat = 255)) false (decide (v.toNat % 16 = 15)) s.flagC } := by
  rw [State.setIncFlags, add8_one_zero, add8_one_half]
  rfl

/-- The flags of DEC, with Cf as it was (R137). -/
theorem State.setDecFlags_eq (v : Byte) (s : State) : s.setDecFlags v =
    { s with f := packFlags (decide (v.toNat = 1)) true (decide (v.toNat % 16 = 0)) s.flagC } := by
  rw [State.setDecFlags, sub8_zero_false, sub8_one_half]
  rfl

@[simp] theorem State.flagC_setReg (r : Reg8) (v : Byte) (s : State) : (s.setReg r v).flagC = s.flagC :=
  State.flag_congr (State.setReg_f r v s) .c

@[simp] theorem State.flagC_busAfterRead (addr : Word) (s : State) : (busAfterRead addr s).flagC = s.flagC :=
  State.flag_congr (busAfterRead_f addr s) .c

@[simp] theorem State.flagC_busStore (addr : Word) (v : Byte) (s : State) : (busStore addr v s).flagC = s.flagC :=
  State.flag_congr (busStore_f addr v s) .c

/-- An instruction that reads the byte at addr, stores w of it there and then makes the register update g, or faults at
addr on the read: the store is at the same address, so it cannot fault. -/
theorem modify_outcome (addr len p : Word) (c : Nat) (s : State) (w : Byte → Byte) {g : Byte → State → State}
    (hfetched : ∀ v u, g v (u.fetched len) = (g v u).fetched len := by intros; rfl)
    (hstorage : ∀ v u, (g v u).storage = u.storage := by intros; rfl) :
    let m := busStore addr (w (busValue addr s)) (busAfterRead addr s)
    let o := (readByte addr (s.fetched len)).andThen fun v t =>
      (writeByte addr (w v) t).andThen fun _ u => finish p c (g v u)
    (prohibited addr = false → o = .next { g (busValue addr s) m with
      pc := p, timer := m.timer.tick c, elapsed := s.elapsed + c }) ∧
    (prohibited addr = true → o =
      .fault (raise (.prohibitedAccess addr .read) { s with pc := s.pc + len })) := by
  intro m o
  refine ⟨fun h => ?_, fun h => ?_⟩
  · have helapsed : m.elapsed = s.elapsed := by simp [m]
    have ho : o = finish p c ((g (busValue addr s) m).fetched len) := by
      show Res.andThen _ _ = _
      rw [readByte_ok h, Res.andThen_ok, writeByte_ok h, Res.andThen_ok, busValue_fetched, busAfterRead_fetched,
        busStore_fetched, hfetched]
    rw [ho, ← helapsed]
    exact finish_of_storage (hstorage _ m) p c
  · show Res.andThen _ _ = _
    rw [readByte_fault h]
    rfl

theorem encode_ofIncReg (r : Reg8) : encode (.ofIncReg r) = [BitVec.ofNat 8 (0x04 + 8 * r.code)] := by
  cases r <;> rfl

theorem encode_ofDecReg (r : Reg8) : encode (.ofDecReg r) = [BitVec.ofNat 8 (0x05 + 8 * r.code)] := by
  cases r <;> rfl

theorem exec_ofIncReg (r : Reg8) (s : State) : exec (.ofIncReg r) s =
    finish (s.pc + 1) (s.cycles (0x04 + 8 * r.code) 4) ((s.setReg r (s.reg r + 1)).setIncFlags (s.reg r)) := by
  rw [exec_eq_runShape, Instr.shape_ofIncReg, ← add8_one_result]
  rfl

theorem exec_ofDecReg (r : Reg8) (s : State) : exec (.ofDecReg r) s =
    finish (s.pc + 1) (s.cycles (0x05 + 8 * r.code) 4) ((s.setReg r (s.reg r - 1)).setDecFlags (s.reg r)) := by
  rw [exec_eq_runShape, Instr.shape_ofDecReg, ← sub8_result_false]
  rfl

/-- Settles O45: the register forms change nothing in storage; the forms at HL modify one byte in place. -/
theorem incrementAndDecrementByte : Obligations.IncrementAndDecrementByte := by
  refine ⟨fun r s => ⟨encode_ofIncReg r, ?_, encode_ofDecReg r, ?_⟩, fun s => ?_⟩
  · rw [exec_ofIncReg, finish_of_storage (by simp : _ = s.storage), State.setIncFlags_eq, State.flagC_setReg]
  · rw [exec_ofDecReg, finish_of_storage (by simp : _ = s.storage), State.setDecFlags_eq, State.flagC_setReg]
  · obtain ⟨inc_ok, inc_fault⟩ := modify_outcome s.hl 1 (s.pc + 1) (s.cycles 0x34 12) s
      (fun v => (add8 v 1 false).result) (g := State.setIncFlags)
    obtain ⟨dec_ok, dec_fault⟩ := modify_outcome s.hl 1 (s.pc + 1) (s.cycles 0x35 12) s
      (fun v => (sub8 v 1 false).result) (g := State.setDecFlags)
    refine ⟨rfl, rfl, fun h => ⟨(inc_ok h).trans ?_, (dec_ok h).trans ?_⟩, fun h => ⟨inc_fault h, dec_fault h⟩⟩
    · simp only [State.setIncFlags_eq, add8_one_result, State.flagC_busStore, State.flagC_busAfterRead]
    · simp only [State.setDecFlags_eq, sub8_result_false, State.flagC_busStore, State.flagC_busAfterRead]

/-! ## 16-bit INC and DEC -/

theorem encode_ofIncPair (p : Pair) : encode (.ofIncPair p) = [BitVec.ofNat 8 (0x03 + 16 * p.code)] := by
  cases p <;> rfl

theorem encode_ofDecPair (p : Pair) : encode (.ofDecPair p) = [BitVec.ofNat 8 (0x0B + 16 * p.code)] := by
  cases p <;> rfl

/-- Settles O46: the only change besides the end of the instruction is the write to the pair, which has no check. -/
theorem incrementAndDecrementPair : Obligations.IncrementAndDecrementPair := by
  refine fun p s => ⟨encode_ofIncPair p, ?_, encode_ofDecPair p, ?_, rfl, rfl, rfl, rfl,
    fun v => ⟨rfl, rfl, rfl, rfl⟩⟩
  · rw [exec_eq_runShape, Instr.shape_ofIncPair]
    exact finish_of_storage (State.storage_setPair p _ s) _ _
  · rw [exec_eq_runShape, Instr.shape_ofDecPair]
    exact finish_of_storage (State.storage_setPair p _ s) _ _

/-! ## 16-bit addition to HL -/

theorem encode_ofAddHL (p : Pair) : encode (.ofAddHL p) = [BitVec.ofNat 8 (0x09 + 16 * p.code)] := by
  cases p <;> rfl

theorem add16_result (x y : Word) : (add16 x y).result = BitVec.ofNat 16 (x.toNat + y.toNat) := rfl

theorem add16_half (x y : Word) : (add16 x y).half = decide (4095 < x.toNat % 4096 + y.toNat % 4096) := rfl

theorem add16_carry (x y : Word) : (add16 x y).carry = decide (65535 < x.toNat + y.toNat) := by
  refine eq_decide_of_iff ((aluAdd_carry_iff x y false 12 16).trans ?_)
  rw [Nat.mod_eq_of_lt x.isLt, Nat.mod_eq_of_lt y.isLt]
  rfl

theorem hiByte_ofNat (n : Nat) : hiByte (BitVec.ofNat 16 n) = BitVec.ofNat 8 (n % 65536 / 256) := by
  rw [hiByte_eq_ofNat, BitVec.toNat_ofNat]

theorem loByte_ofNat (n : Nat) : loByte (BitVec.ofNat 16 n) = BitVec.ofNat 8 n := by
  rw [loByte_eq_ofNat, BitVec.toNat_ofNat]
  apply BitVec.eq_of_toNat_eq
  rw [BitVec.toNat_ofNat, BitVec.toNat_ofNat]
  omega

/-- Settles O47: HL from the sum by its two bytes, N, Hf and Cf by the fields of the addition. -/
theorem addPairToHL : Obligations.AddPairToHL := by
  intro p s x y
  refine ⟨encode_ofAddHL p, ?_⟩
  rw [exec_eq_runShape, Instr.shape_ofAddHL, ← hiByte_ofNat, ← loByte_ofNat, ← add16_carry]
  rfl

end Sys2Proof.Machine
end

section
/-! Rotates, shifts and bits (spec/43_rotate_shift_bit.md R210 to R225): the eight results and the bit that BIT reads as
numbers, and the end of an instruction that modifies its r8 operand in place. -/

namespace Sys2Proof.Machine

/-! ## The results (R215 to R222) -/

theorem getLsbD_zero_eq (v : Byte) : v.getLsbD 0 = decide (v.toNat % 2 = 1) := by
  rw [getLsbD_eq_div_mod, pow_zero, Nat.div_one]

theorem getLsbD_seven_eq (v : Byte) : v.getLsbD 7 = decide (128 ≤ v.toNat) := BitVec.msb_eq_decide v

theorem toNat_getLsbD_zero : ∀ v : Byte, (v.getLsbD 0).toNat = v.toNat % 2 := by decide

theorem toNat_getLsbD_seven : ∀ v : Byte, (v.getLsbD 7).toNat = v.toNat / 128 := by decide

/-- A shift to the left doubles, and the bit shifted in is added. -/
theorem shiftLeft_or_bitByte : ∀ (v : Byte) (b : Bool),
    v <<< 1 ||| bitByte b = BitVec.ofNat 8 (2 * v.toNat + b.toNat) := by
  decide

/-- A shift to the right halves, and the bit shifted in counts 128. -/
theorem ushiftRight_or_bitByte : ∀ (v : Byte) (b : Bool),
    v >>> 1 ||| bitByte b <<< 7 = BitVec.ofNat 8 (v.toNat / 2 + 128 * b.toNat) := by
  decide

/-- The nibbles change places. -/
theorem swap_nibbles : ∀ v : Byte, v <<< 4 ||| v >>> 4 = BitVec.ofNat 8 (v.toNat % 16 * 16 + v.toNat / 16) := by
  decide

/-- What SRA keeps in the top bit is the top bit, shifted in. -/
theorem and_0x80_eq_bitByte : ∀ v : Byte, v &&& 0x80#8 = bitByte (v.getLsbD 7) <<< 7 := by
  decide

/-- Settles O48: each result is a shift to the left or to the right with the bit its rule shifts in, but for SWAP. -/
theorem rotateAndShiftResults : Obligations.RotateAndShiftResults := by
  intro v cin x
  have left (b : Bool) := shiftLeft_or_bitByte v b
  have right (b : Bool) := ushiftRight_or_bitByte v b
  have low := getLsbD_zero_eq v
  have high := getLsbD_seven_eq v
  refine ⟨Prod.ext ?rlc high, Prod.ext ?rrc low, Prod.ext (left cin) high, Prod.ext (right cin) low,
    Prod.ext ?sla high, Prod.ext ?sra low, Prod.ext (swap_nibbles v) rfl, Prod.ext ?srl low⟩
  case rlc => exact (left _).trans (by rw [toNat_getLsbD_seven])
  case rrc => exact (right _).trans (by rw [toNat_getLsbD_zero])
  case sla => exact (BitVec.or_zero (x := v <<< 1)).symm.trans (left false)
  case sra =>
    show v >>> 1 ||| v &&& 0x80#8 = _
    rw [and_0x80_eq_bitByte, right, toNat_getLsbD_seven]
  case srl => exact (BitVec.or_zero (x := v >>> 1)).symm.trans (right false)

/-! ## The end of an instruction that modifies its operand in place -/

/-- Read the r8 operand, store w of it there, then make the register update g. -/
def modifyR8 (o : R8) (code : Nat) (w : Byte → Byte) (g : Byte → State → State) (s : State) : Out :=
  (readR8 o (s.fetched 2)).andThen fun v t =>
    (writeR8 o (w v) t).andThen fun _ u => finish (s.pc + 2) (s.cycles code (r8Cycles o 8 16)) (g v u)

/-- The flags of a CB rotate or shift: Z from the result, Cf the bit shifted out (R214). -/
def State.setRotFlags (q : Byte × Bool) (s : State) : State := s.setFlags (q.1 == 0x00#8) false false q.2

theorem exec_ofRot (op : RotOp) (o : R8) (s : State) : exec (.ofRot op o) s =
    modifyR8 o (0xCB00 + 8 * op.code + o.code) (fun v => (rotShift op v s.flagC).1)
      (fun v => State.setRotFlags (rotShift op v s.flagC)) s := by
  rw [exec_eq_runShape, Instr.shape_ofRot]
  rfl

theorem bitMask_eq_ofNat : ∀ y : Fin 8, bitMask y = BitVec.ofNat 8 (2 ^ y.val) := by decide

theorem exec_ofRes (y : Fin 8) (o : R8) (s : State) : exec (.ofRes y o) s =
    modifyR8 o (0xCB80 + 8 * y.val + o.code) (fun v => v &&& ~~~(BitVec.ofNat 8 (2 ^ y.val))) (fun _ u => u) s := by
  rw [exec_eq_runShape, Instr.shape_ofRes, ← bitMask_eq_ofNat]
  rfl

theorem exec_ofSet (y : Fin 8) (o : R8) (s : State) : exec (.ofSet y o) s =
    modifyR8 o (0xCBC0 + 8 * y.val + o.code) (fun v => v ||| BitVec.ofNat 8 (2 ^ y.val)) (fun _ u => u) s := by
  rw [exec_eq_runShape, Instr.shape_ofSet, ← bitMask_eq_ofNat]
  rfl

section
variable (code : Nat) (w : Byte → Byte) {g : Byte → State → State} (s : State)

/-- On a register, nothing in storage changes. -/
theorem modifyR8_reg (r : Reg8) (hfetched : ∀ v u, g v (u.fetched 2) = (g v u).fetched 2 := by intros; rfl)
    (hstorage : ∀ v u, (g v u).storage = u.storage := by intros; rfl) :
    modifyR8 (.reg r) code w g s = .next { g (s.reg r) (s.setReg r (w (s.reg r))) with
      pc := s.pc + 2, timer := s.timer.tick (s.cycles code 8), elapsed := s.elapsed + s.cycles code 8 } := by
  have hend : modifyR8 (.reg r) code w g s =
      finish (s.pc + 2) (s.cycles code 8) ((g (s.reg r) (s.setReg r (w (s.reg r)))).fetched 2) := by
    rw [← hfetched, ← State.setReg_fetched, ← State.reg_fetched r 2 s]
    rfl
  rw [hend]
  exact finish_of_storage ((hstorage _ _).trans (State.storage_setReg r _ s)) _ _

/-- At HL the read moves no register, so the store is at the address of the read. -/
theorem modifyR8_indHL_eq : modifyR8 .indHL code w g s =
    (readByte s.hl (s.fetched 2)).andThen fun v t =>
      (writeByte s.hl (w v) t).andThen fun _ u => finish (s.pc + 2) (s.cycles code 16) (g v u) := by
  show (readByte s.hl (s.fetched 2)).andThen (fun v t => (writeByte t.hl (w v) t).andThen _) = _
  cases h : prohibited s.hl
  · rw [readByte_ok h, Res.andThen_ok, Res.andThen_ok, hl_busAfterRead]
    rfl
  · rw [readByte_fault h, Res.andThen_fault, Res.andThen_fault]

/-- At HL, the byte is modified in place, or the read faults. -/
theorem modifyR8_indHL (hfetched : ∀ v u, g v (u.fetched 2) = (g v u).fetched 2 := by intros; rfl)
    (hstorage : ∀ v u, (g v u).storage = u.storage := by intros; rfl) :
    let m := busStore s.hl (w (busValue s.hl s)) (busAfterRead s.hl s)
    (prohibited s.hl = false → modifyR8 .indHL code w g s = .next { g (busValue s.hl s) m with
      pc := s.pc + 2, timer := m.timer.tick (s.cycles code 16), elapsed := s.elapsed + s.cycles code 16 }) ∧
    (prohibited s.hl = true → modifyR8 .indHL code w g s =
      .fault (raise (.prohibitedAccess s.hl .read) { s with pc := s.pc + 2 })) := by
  rw [modifyR8_indHL_eq]
  exact modify_outcome s.hl 2 (s.pc + 2) (s.cycles code 16) s w hfetched hstorage

end

/-! ## The rotates and shifts -/

theorem encode_ofRot (op : RotOp) (o : R8) :
    encode (.ofRot op o) = [0xCB, BitVec.ofNat 8 (8 * op.code + o.code)] := by
  cases op <;> rcases o with (_ | _ | _ | _ | _ | _ | _) | _ <;> rfl

/-- Settles O49: the accumulator rotates change A and F only; the CB forms modify their operand in place. -/
theorem rotateAndShiftInstructions : Obligations.RotateAndShiftInstructions := by
  refine ⟨fun s => ⟨rfl, rfl, rfl, rfl, ?_⟩, fun op r s => ⟨encode_ofRot op (.reg r), ?_⟩,
    fun op s => ⟨encode_ofRot op .indHL, ?_⟩⟩
  · simp only [List.forall_mem_cons]
    exact ⟨rfl, rfl, rfl, rfl, List.forall_mem_nil _⟩
  · rw [exec_ofRot]
    exact modifyR8_reg _ _ s r
  · rw [exec_ofRot]
    exact modifyR8_indHL _ _ s

/-! ## The bit instructions -/

theorem encode_ofBit (y : Fin 8) (o : R8) :
    encode (.ofBit y o) = [0xCB, BitVec.ofNat 8 (0x40 + 8 * y.val + o.code)] := by
  fin_cases y <;> rcases o with (_ | _ | _ | _ | _ | _ | _) | _ <;> rfl

theorem encode_ofRes (y : Fin 8) (o : R8) :
    encode (.ofRes y o) = [0xCB, BitVec.ofNat 8 (0x80 + 8 * y.val + o.code)] := by
  fin_cases y <;> rcases o with (_ | _ | _ | _ | _ | _ | _) | _ <;> rfl

theorem encode_ofSet (y : Fin 8) (o : R8) :
    encode (.ofSet y o) = [0xCB, BitVec.ofNat 8 (0xC0 + 8 * y.val + o.code)] := by
  fin_cases y <;> rcases o with (_ | _ | _ | _ | _ | _ | _) | _ <;> rfl

/-- The complement of a bit, as BIT puts it into Z. -/
theorem not_getLsbD_eq (v : Byte) (k : Nat) : (!v.getLsbD k) = decide (v.toNat / 2 ^ k % 2 = 0) := by
  rw [getLsbD_eq_div_mod, ← decide_not, decide_eq_decide]
  exact Nat.mod_two_ne_one

theorem State.fetched_two (s : State) : s.fetched 2 = (s.fetched 1).fetched 1 := by
  rw [State.fetched, State.fetched, State.fetched, BitVec.add_assoc]
  rfl

/-- BIT at HL is one load, from the state past the prefix, whose register update is to the flags alone. -/
theorem exec_ofBit_indHL (y : Fin 8) (s : State) :
    (prohibited s.hl = false → exec (.ofBit y .indHL) s = .next { busAfterRead s.hl s with
      f := packFlags (decide ((busValue s.hl s).toNat / 2 ^ y.val % 2 = 0)) false true s.flagC
      pc := s.pc + 2
      timer := s.timer.tick (s.cycles (0xCB40 + 8 * y.val + 6) 12)
      elapsed := s.elapsed + s.cycles (0xCB40 + 8 * y.val + 6) 12 }) ∧
    (prohibited s.hl = true → exec (.ofBit y .indHL) s =
      .fault (raise (.prohibitedAccess s.hl .read) { s with pc := s.pc + 2 })) := by
  have hload := load_outcome s.hl (s.pc + 2) (s.cycles (0xCB40 + 8 * y.val + 6) 12) (s.fetched 1)
    (g := fun v u => u.setFlags (!v.getLsbD y.val) false true s.flagC)
  rw [← State.fetched_two, busValue_fetched, busAfterRead_fetched] at hload
  rw [exec_eq_runShape, Instr.shape_ofBit, ← not_getLsbD_eq]
  have hpc : s.pc + 2 = s.pc + 1 + 1 := congrArg State.pc s.fetched_two
  exact ⟨hload.1, fun h => by rw [hpc]; exact hload.2 h⟩

/-- The code byte of a bit instruction at HL. -/
theorem add_code_indHL (base n : Nat) : base + n + R8.code .indHL = base + 6 + n := Nat.add_right_comm base n 6

/-- Settles O50: BIT reads and sets flags; RES and SET modify their operand in place, with no register update. -/
theorem bitTestResetAndSet : Obligations.BitTestResetAndSet := by
  refine ⟨fun y r s => ⟨encode_ofBit y (.reg r), ?bit, encode_ofRes y (.reg r), ?res, encode_ofSet y (.reg r), ?set⟩,
    fun y s => ⟨?encodeBit, ?encodeRes, ?encodeSet, ?indHL⟩⟩
  case bit =>
    rw [exec_eq_runShape, Instr.shape_ofBit, ← not_getLsbD_eq, ← State.reg_fetched r 2 s]
    rfl
  case res =>
    rw [exec_ofRes]
    exact modifyR8_reg _ _ s r
  case set =>
    rw [exec_ofSet]
    exact modifyR8_reg _ _ s r
  case encodeBit => rw [encode_ofBit, add_code_indHL]
  case encodeRes => rw [encode_ofRes, add_code_indHL]
  case encodeSet => rw [encode_ofSet, add_code_indHL]
  case indHL =>
    have hbit := exec_ofBit_indHL y s
    have hmodify (code : Nat) (w : Byte → Byte) := modifyR8_indHL code w s (g := fun _ u => u)
    simp only [List.forall_mem_cons, exec_ofRes, exec_ofSet]
    exact ⟨fun h => ⟨hbit.1 h, (hmodify _ _).1 h, (hmodify _ _).1 h⟩,
      fun h => ⟨hbit.2 h, (hmodify _ _).2 h, (hmodify _ _).2 h, List.forall_mem_nil _⟩⟩

end Sys2Proof.Machine
end

section
/-! Control flow and the stack (spec/44_control_flow.md R240 to R256; spec/00_scope.md R13): every push form is one push
and every pop form one pop, followed by the end of the instruction; what such an instruction leaves when it completes,
when the window check stops it, and when an access does. -/

namespace Sys2Proof.Machine

/-! ## Jumps -/

theorem encode_ofJpCond (cc : Cond) (n : Word) :
    encode (.ofJpCond cc n) = [BitVec.ofNat 8 (0xC2 + 8 * cc.code), loByte n, hiByte n] := by
  cases cc <;> rfl

theorem encode_ofJrCond (cc : Cond) (e : Byte) :
    encode (.ofJrCond cc e) = [BitVec.ofNat 8 (0x20 + 8 * cc.code), e] := by
  cases cc <;> rfl

theorem exec_ofJpCond (cc : Cond) (n : Word) (s : State) : exec (.ofJpCond cc n) s = jpCond cc n s := by
  rw [exec_eq_runShape, Instr.shape_ofJpCond]
  rfl

theorem exec_ofJrCond (cc : Cond) (e : Byte) (s : State) : exec (.ofJrCond cc e) s = jrCond cc e s := by
  rw [exec_eq_runShape, Instr.shape_ofJrCond]
  rfl

theorem relTarget_eq (addr : Word) (e : Byte) : relTarget addr e = addr + 2 + e.signExtend 16 := by
  rw [relTarget, sext16_eq_signExtend]

/-- Settles O51: a jump is the end of the instruction at its target, a conditional one by its two branches. -/
theorem absoluteAndRelativeJumps : Obligations.AbsoluteAndRelativeJumps := by
  simp only [Obligations.AbsoluteAndRelativeJumps, ← loByte_eq_ofNat, ← hiByte_eq_ofNat, ← relTarget_eq]
  exact ⟨fun s => ⟨rfl, rfl, rfl, rfl⟩, fun n s => ⟨rfl, rfl⟩,
    fun cc n s => ⟨encode_ofJpCond cc n, fun h => (exec_ofJpCond cc n s).trans (if_pos h),
      fun h => (exec_ofJpCond cc n s).trans (if_neg (Bool.eq_false_iff.1 h))⟩,
    fun s => ⟨rfl, rfl⟩, fun e s => ⟨rfl, rfl⟩,
    fun cc e s => ⟨encode_ofJrCond cc e, fun h => (exec_ofJrCond cc e s).trans (if_pos h),
      fun h => (exec_ofJrCond cc e s).trans (if_neg (Bool.eq_false_iff.1 h))⟩⟩

/-! ## The push forms as one operation -/

/-- Push v, then end the instruction at the target (R13, R241). -/
def pushAndEnd (v target : Word) (c : Nat) (s : State) : Out :=
  (push16 v (s.fetched 1)).andThen fun _ t => finish target c t

theorem exec_ofPush (p : StackPair) (s : State) : exec (.ofPush p) s =
    pushAndEnd (s.stackPair p) (s.pc + 1) (s.cycles (0xC5 + 16 * p.code) 16) s := by
  rw [exec_eq_runShape, Instr.shape_ofPush]
  rfl

theorem exec_ofRst (y : Fin 8) (s : State) : exec (.ofRst y) s =
    pushAndEnd (s.pc + 1) (BitVec.ofNat 16 (8 * y.val)) (s.cycles (0xC7 + 8 * y.val) 16) s := by
  rw [exec_eq_runShape, Instr.shape_ofRst, runShape, restart, Nat.mul_comm]
  rfl

theorem exec_call_eq (n : Word) (s : State) :
    exec (.call_n16 n) s = pushAndEnd (s.pc + 3) n (s.cycles 0xCD 24) s := rfl

theorem exec_ofCallCond_taken {cc : Cond} {s : State} (h : s.cond cc = true) (n : Word) :
    exec (.ofCallCond cc n) s = pushAndEnd (s.pc + 3) n (s.cycles (0xC4 + 8 * cc.code) 24) s := by
  rw [exec_eq_runShape, Instr.shape_ofCallCond, runShape, callCond, if_pos h]
  rfl

theorem exec_ofCallCond_skipped {cc : Cond} {s : State} (h : s.cond cc = false) (n : Word) :
    exec (.ofCallCond cc n) s = finish (s.pc + 3) (s.cyclesNotTaken (0xC4 + 8 * cc.code) 12) s := by
  rw [exec_eq_runShape, Instr.shape_ofCallCond, runShape, callCond, if_neg (Bool.eq_false_iff.1 h)]

/-- Every push form is a push of its value, then the end of the instruction. -/
theorem exec_pushForm {i : Instr} {s : State} {v : Word} (hf : PushForm i s v) :
    ∃ target c, exec i s = pushAndEnd v target c s := by
  cases hf with
  | push p => exact ⟨_, _, exec_ofPush p s⟩
  | call n => exact ⟨_, _, exec_call_eq n s⟩
  | callCond cc n _ taken => exact ⟨_, _, exec_ofCallCond_taken taken n⟩
  | rst y => exact ⟨_, _, exec_ofRst y s⟩

/-! ## The pop forms as one operation -/

/-- Pop a word, make the update g with it, then end the instruction where p says (R13, R241). -/
def popAndEnd (p : Word → Word) (c : Nat) (g : Word → State → State) (s : State) : Out :=
  (pop16 (s.fetched 1)).andThen fun v t => finish (p v) c (g v t)

theorem exec_ofPop (p : StackPair) (s : State) : exec (.ofPop p) s =
    popAndEnd (fun _ => s.pc + 1) (s.cycles (0xC1 + 16 * p.code) 12) (State.setStackPair p) s := by
  rw [exec_eq_runShape, Instr.shape_ofPop]
  rfl

theorem exec_ret_eq (s : State) : exec .ret s = popAndEnd id (s.cycles 0xC9 16) (fun _ u => u) s := rfl

theorem exec_reti_eq (s : State) :
    exec .reti s = popAndEnd id (s.cycles 0xD9 16) (fun _ u => { u with ime := true }) s := rfl

theorem exec_ofRetCond_taken {cc : Cond} {s : State} (h : s.cond cc = true) :
    exec (.ofRetCond cc) s = popAndEnd id (s.cycles (0xC0 + 8 * cc.code) 20) (fun _ u => u) s := by
  rw [exec_eq_runShape, Instr.shape_ofRetCond, runShape, retCond, if_pos h]
  rfl

theorem exec_ofRetCond_skipped {cc : Cond} {s : State} (h : s.cond cc = false) :
    exec (.ofRetCond cc) s = finish (s.pc + 1) (s.cyclesNotTaken (0xC0 + 8 * cc.code) 8) s := by
  rw [exec_eq_runShape, Instr.shape_ofRetCond, runShape, retCond, if_neg (Bool.eq_false_iff.1 h)]

@[simp] theorem State.storage_setStackPair (p : StackPair) (v : Word) (s : State) :
    (s.setStackPair p v).storage = s.storage := by
  cases p <;> rfl

theorem Flag.mem_all (g : Flag) : g ∈ Flag.all := by
  cases g <;> decide

@[simp] theorem State.reg_writeF (r : Reg8) (v : Byte) (s : State) : (s.writeF v).reg r = s.reg r := by
  cases r <;> rfl

/-- Writing F writes every flag (R23). -/
theorem RegistersKept.writeF {rs : List Reg8} {sp ime st : Bool} {s u : State}
    (k : RegistersKept ⟨rs, [], sp, ime, st⟩ s u) (v : Byte) :
    RegistersKept ⟨rs, Flag.all, sp, ime, st⟩ s (u.writeF v) where
  regs q hq := (State.reg_writeF q v u).trans (k.regs q hq)
  flags g hg := absurd (Flag.mem_all g) hg
  f h := nomatch h
  low _ := maskF_low v
  sp := k.sp
  ime := k.ime
  status := k.status
  cfg := k.cfg

/-- Writing a popped pair changes its halves, and all of F for AF (R254, R255). -/
theorem RegistersKept.setStackPair {p : StackPair} {sp ime st : Bool} {s u : State}
    (k : RegistersKept ⟨p.halves, [], sp, ime, st⟩ s u) (v : Word) :
    RegistersKept ⟨p.halves, popFlags p, sp, ime, st⟩ s (u.setStackPair p v) := by
  cases p with
  | bc => exact k.setPair (p := .bc) (fun _ h => h) (fun _ => rfl) v
  | de => exact k.setPair (p := .de) (fun _ h => h) (fun _ => rfl) v
  | hl => exact k.setPair (p := .hl) (fun _ h => h) (fun _ => rfl) v
  | af => exact (k.setReg List.mem_cons_self (hiByte v)).writeF (loByte v)

/-- An update with a popped word that changes registers only, and of these what w names besides SP. -/
structure PopUpdate (w : Writes) (g : Word → State → State) : Prop where
  regs : ∀ v s u, RegistersKept { w with flags := [] } s u → RegistersKept w s (g v u)
  sp : ∀ v u, (g v u).sp = u.sp
  storage : ∀ v u, (g v u).storage = u.storage

/-- Every pop form is a pop, an update that its rule names, then the end of the instruction. -/
theorem exec_popForm {i : Instr} {s : State} {w : Writes} (hf : PopForm i s w) :
    w.sp = true ∧ ∃ p c g, exec i s = popAndEnd p c g s ∧ PopUpdate w g := by
  cases hf with
  | pop p =>
    exact ⟨rfl, _, _, _, exec_ofPop p s, fun v _ _ k => k.setStackPair v, State.setStackPair_sp p,
      State.storage_setStackPair p⟩
  | ret => exact ⟨rfl, _, _, _, exec_ret_eq s, fun _ _ _ k => k, fun _ _ => rfl, fun _ _ => rfl⟩
  | retCond cc _ taken =>
    exact ⟨rfl, _, _, _, exec_ofRetCond_taken taken, fun _ _ _ k => k, fun _ _ => rfl, fun _ _ => rfl⟩
  | reti => exact ⟨rfl, _, _, _, exec_reti_eq s, fun _ _ _ k => k.setIme rfl true, fun _ _ => rfl, fun _ _ => rfl⟩

/-! ## Frames -/

/-- A push that completes has moved SP and stored two bytes below it. -/
theorem pushAndEnd_frame {v target : Word} {c : Nat} {s t : State} (h : pushAndEnd v target c s = .next t) :
    RegistersKept { sp := true } s t ∧ t.sp = s.sp - 2 ∧ StoresOnly [s.sp - 2, s.sp - 1] s t := by
  obtain ⟨_, u, hpush, hnext⟩ := Res.andThen_next h
  obtain ⟨-, -, rfl⟩ := push16_eq_ok hpush
  cases hnext
  rw [State.fetched_sp, sub_two_add_one]
  have hregs : RegistersKept { sp := true } s ((s.fetched 1).setSP (s.sp - 2)) :=
    ((RegistersKept.refl s).fetched 1).setSP rfl _
  have hmem : Stored [] s ((s.fetched 1).setSP (s.sp - 2)) := (Stored.refl s).update rfl
  exact ⟨((hregs.busStore _ _).busStore _ _).retired _ _, by simp, ((hmem.store _ _).store _ _).retired _ _⟩

/-- A pop that completes has moved SP, stored nothing, and changed besides what its update does. -/
theorem popAndEnd_frame {p : Word → Word} {c : Nat} {g : Word → State → State} {w : Writes} {s t : State}
    (hsp : w.sp = true) (hg : PopUpdate w g) (h : popAndEnd p c g s = .next t) :
    RegistersKept w s t ∧ t.sp = s.sp + 2 ∧ MemoryKept s t := by
  obtain ⟨v, u, hpop, hnext⟩ := Res.andThen_next h
  obtain ⟨-, -, hu⟩ := pop16_eq_ok hpop
  cases hnext
  have hregs : RegistersKept { w with flags := [] } s u :=
    hu ▸ ((((RegistersKept.refl s).fetched 1).setSP hsp _).busAfterRead _).busAfterRead _
  have husp : u.sp = s.sp + 2 := by simp [hu]
  have hustorage : u.storage = s.storage := by simp [hu]
  exact ⟨(hg.regs v s u hregs).retired _ _, (hg.sp v u).trans husp,
    memoryKept_retired ((hg.storage v u).trans hustorage) _ _⟩

/-- Settles O22: every push form is one push, every pop form one pop. -/
theorem frameOfStackForms : Obligations.FrameOfStackForms := by
  refine ⟨fun i v s t hf h => ?push, fun i w s t hf h => ?pop⟩
  case push =>
    obtain ⟨target, c, hexec⟩ := exec_pushForm hf
    exact pushAndEnd_frame (hexec ▸ h)
  case pop =>
    obtain ⟨hsp, p, c, g, hexec, hg⟩ := exec_popForm hf
    exact popAndEnd_frame hsp hg (hexec ▸ h)

/-! ## Faults of a stack move -/

/-- The window of R240 as a range. -/
theorem inStackWindow_iff (cfg : Config) (sp : Word) : inStackWindow cfg sp = true ↔
    cfg.stackLo.toNat ≤ sp.toNat ∧ sp.toNat ≤ cfg.stackHi.toNat := by
  simp [inStackWindow]

/-- Two bytes from 0xFF7E up, not wrapping, are above the prohibited regions. -/
theorem wordAccessible_of_high {addr : Word} (h : 0xFF7E ≤ addr.toNat ∧ addr.toNat ≤ 0xFFFE) :
    wordAccessible addr = true := by
  have hlow : prohibited addr = false := by
    rw [← Bool.not_eq_true, prohibited_iff]
    omega
  have hhigh : prohibited (addr + 1) = false := by
    rw [← Bool.not_eq_true, prohibited_iff]
    bv_omega
  rw [wordAccessible, hlow, hhigh]
  rfl

/-- Settles O54: a push or pop form stops where its push or pop does. -/
theorem stackMovesAreCheckedBeforeMemory : Obligations.StackMovesAreCheckedBeforeMemory := by
  simp only [Obligations.StackMovesAreCheckedBeforeMemory, ← loByte_eq_ofNat]
  refine ⟨fun i v s hf hw => ?pushWindow, fun i w s hf hw => ?popWindow, inStackWindow_iff, fun sp h => ?default,
    fun i v s hf hw => ?push, fun i w s hf hw => ?pop⟩
  case pushWindow =>
    obtain ⟨target, c, hexec⟩ := exec_pushForm hf
    rw [hexec, pushAndEnd, push16_window (s := s.fetched 1) hw]
    rfl
  case popWindow =>
    obtain ⟨-, p, c, g, hexec, -⟩ := exec_popForm hf
    rw [hexec, popAndEnd, pop16_window (s := s.fetched 1) hw]
    rfl
  case default =>
    have hrange : 0xFF80 ≤ sp.toNat ∧ sp.toNat ≤ 0xFFFE := (inStackWindow_iff _ _).1 h
    exact ⟨hrange.1, hrange.2, wordAccessible_of_high (by omega), wordAccessible_of_high (by bv_omega)⟩
  case push =>
    obtain ⟨target, c, hexec⟩ := exec_pushForm hf
    rw [hexec, pushAndEnd]
    refine ⟨fun h1 => ?_, fun h1 h2 => ?_⟩
    · rw [push16_low (s := s.fetched 1) hw h1]
      rfl
    · rw [push16_high (s := s.fetched 1) hw h1 h2, busStore_setSP, busStore_fetched,
        ← busStore_pc (s.sp - 2) (loByte v) s]
      rfl
  case pop =>
    obtain ⟨-, p, c, g, hexec, -⟩ := exec_popForm hf
    rw [hexec, popAndEnd]
    refine ⟨fun h1 => ?_, fun h1 h2 => ?_⟩
    · rw [pop16_low (s := s.fetched 1) hw h1]
      rfl
    · rw [pop16_high (s := s.fetched 1) hw h1 h2, busAfterRead_setSP, busAfterRead_fetched, ← busAfterRead_pc s.sp s]
      rfl

/-! ## A stack move that completes -/

/-- A push that the window and the Bus let through. -/
theorem pushAndEnd_completes {s : State} (hw : inStackWindow s.cfg (s.sp - 2) = true)
    (ha : wordAccessible (s.sp - 2) = true) (v target : Word) (c : Nat) :
    let m := busStore (s.sp - 1) (hiByte v) (busStore (s.sp - 2) (loByte v) s)
    pushAndEnd v target c s =
      .next { m with sp := s.sp - 2, pc := target, timer := m.timer.tick c, elapsed := s.elapsed + c } := by
  intro m
  have helapsed : m.elapsed = s.elapsed := by simp [m]
  have hpush : push16 v (s.fetched 1) = .ok () ((m.fetched 1).setSP (s.sp - 2)) := by
    rw [push16_ok (s := s.fetched 1) hw ha]
    simp only [State.fetched_sp, sub_two_add_one, busStore_setSP, busStore_fetched, m]
  rw [pushAndEnd, hpush, ← helapsed]
  rfl

theorem encode_ofCallCond (cc : Cond) (n : Word) :
    encode (.ofCallCond cc n) = [BitVec.ofNat 8 (0xC4 + 8 * cc.code), loByte n, hiByte n] := by
  cases cc <;> rfl

theorem encode_ofPush (p : StackPair) : encode (.ofPush p) = [BitVec.ofNat 8 (0xC5 + 16 * p.code)] := by
  cases p <;> rfl

theorem encode_ofRst (y : Fin 8) : encode (.ofRst y) = [BitVec.ofNat 8 (0xC7 + 8 * y.val)] := by
  fin_cases y <;> rfl

/-- Settles O52: each form is one push with its value, target and count. -/
theorem callsRestartsAndPushesComplete : Obligations.CallsRestartsAndPushesComplete := by
  simp only [Obligations.CallsRestartsAndPushesComplete, ← loByte_eq_ofNat, ← hiByte_eq_ofNat]
  refine fun s => ⟨fun n => rfl, encode_ofCallCond, encode_ofPush, encode_ofRst, ⟨rfl, rfl, rfl, rfl⟩,
    fun hw ha => ?_, fun cc n h => exec_ofCallCond_skipped h n⟩
  have completes := pushAndEnd_completes hw ha
  exact ⟨fun n => completes _ _ _, fun cc n h => (exec_ofCallCond_taken h n).trans (completes _ _ _),
    fun p => (exec_ofPush p s).trans (completes _ _ _), fun y => (exec_ofRst y s).trans (completes _ _ _)⟩

/-- A pop that the window and the Bus let through. -/
theorem popAndEnd_completes {s : State} (hw : inStackWindow s.cfg (s.sp + 2) = true)
    (ha : wordAccessible s.sp = true) (p : Word → Word) (c : Nat) {g : Word → State → State}
    (hmoved : ∀ v x u, g v ((u.fetched 1).setSP x) = ((g v u).fetched 1).setSP x := by intros; rfl)
    (hstorage : ∀ v u, (g v u).storage = u.storage := by intros; rfl) :
    let v := joinBytes (busValue (s.sp + 1) (busAfterRead s.sp s)) (busValue s.sp s)
    popAndEnd p c g s = .next { g v (busAfterRead (s.sp + 1) (busAfterRead s.sp s)) with
      sp := s.sp + 2, pc := p v, timer := s.timer.tick c, elapsed := s.elapsed + c } := by
  intro v
  have hpop : pop16 (s.fetched 1) =
      .ok v (((busAfterRead (s.sp + 1) (busAfterRead s.sp s)).fetched 1).setSP (s.sp + 2)) := by
    rw [pop16_ok (s := s.fetched 1) hw ha]
    simp only [State.fetched_sp, busAfterRead_setSP, busAfterRead_fetched, busValue_setSP, busValue_fetched, v]
  rw [popAndEnd, hpop, Res.andThen_ok, hmoved]
  refine finish_of_storage (u := ((g v _).fetched 1).setSP (s.sp + 2)) ?_ (p v) c
  exact (hstorage v _).trans (by simp)

theorem State.setStackPair_moved (q : StackPair) (v x : Word) (s : State) :
    ((s.fetched 1).setSP x).setStackPair q v = ((s.setStackPair q v).fetched 1).setSP x := by
  cases q <;> rfl

/-- A byte written to F, as a number (R23). -/
theorem maskF_eq_ofNat (v : Byte) : v &&& 0xF0#8 = BitVec.ofNat 8 (v.toNat / 16 * 16) := by
  rw [← toNat_maskF, BitVec.ofNat_toNat, BitVec.setWidth_eq]

/-- What a pair's two registers are after a pop, from the two bytes read (R254, R255). -/
theorem State.setStackPair_joinBytes (hi lo : Byte) (s : State) :
    s.setStackPair .bc (joinBytes hi lo) = { s with b := hi, c := lo } ∧
    s.setStackPair .de (joinBytes hi lo) = { s with d := hi, e := lo } ∧
    s.setStackPair .hl (joinBytes hi lo) = { s with h := hi, l := lo } ∧
    s.setStackPair .af (joinBytes hi lo) = { s with a := hi, f := BitVec.ofNat 8 (lo.toNat / 16 * 16) } := by
  simp only [State.setStackPair, State.setBC, State.setDE, State.setHL, State.setAF, hiByte_joinBytes,
    loByte_joinBytes, maskF_eq_ofNat, and_self]

theorem encode_ofRetCond (cc : Cond) : encode (.ofRetCond cc) = [BitVec.ofNat 8 (0xC0 + 8 * cc.code)] := by
  cases cc <;> rfl

/-- Settles O53: each form is one pop with its update, target and count. -/
theorem returnsAndPopsComplete : Obligations.ReturnsAndPopsComplete := by
  simp only [Obligations.ReturnsAndPopsComplete, ← joinBytes_eq_ofNat]
  refine fun s => ⟨rfl, rfl, rfl, encode_ofRetCond, rfl, rfl, rfl, fun hw ha => ?_,
    fun cc h => exec_ofRetCond_skipped h⟩
  have ret (c : Nat) := popAndEnd_completes hw ha id c (g := fun _ u => u)
  have pop (q : StackPair) := (exec_ofPop q s).trans
    (popAndEnd_completes hw ha _ _ (State.setStackPair_moved q) (State.storage_setStackPair q))
  obtain ⟨hbc, hde, hhl, haf⟩ := State.setStackPair_joinBytes (busValue (s.sp + 1) (busAfterRead s.sp s))
    (busValue s.sp s) (busAfterRead (s.sp + 1) (busAfterRead s.sp s))
  exact ⟨ret _, fun cc h => (exec_ofRetCond_taken h).trans (ret _),
    popAndEnd_completes hw ha id _ (g := fun _ u => { u with ime := true }),
    (pop .bc).trans (by rw [hbc]; rfl), (pop .de).trans (by rw [hde]; rfl), (pop .hl).trans (by rw [hhl]; rfl),
    (pop .af).trans (by rw [haf]; rfl)⟩

end Sys2Proof.Machine
end

section
/-! Miscellaneous and CPU-control instructions (spec/45_misc.md R270 to R278): the run status after each instruction,
decimal adjust as arithmetic and on BCD numbers, and the result of each instruction. -/

namespace Sys2Proof.Machine

/-! ## The run status (R29, R277, R278) -/

/-- HALT and STOP are the only instructions of their shapes. -/
theorem controlAfter_shape_status (i : Instr) (c : Bool × Status) :
    (i.shape.controlAfter c).2 =
      if i = .halt then .stopped .halt else if i = .stop then .stopped .stop else c.2 := by
  by_cases hhalt : i = .halt
  · rw [if_pos hhalt, hhalt]
    rfl
  by_cases hstop : i = .stop
  · rw [if_neg hhalt, if_pos hstop, hstop]
    rfl
  rw [if_neg hhalt, if_neg hstop]
  unfold Shape.controlAfter
  split
  case h_4 hs => exact absurd (Instr.shape_injective hs) hhalt
  case h_5 hs => exact absurd (Instr.shape_injective hs) hstop
  all_goals rfl

/-- Settles O15: the status half of what an instruction of each shape leaves of IME and status. -/
theorem onlyHaltAndStopEndTheRun : Obligations.OnlyHaltAndStopEndTheRun := by
  intro i s t h
  rw [exec_eq_runShape] at h
  have hc : t.control = i.shape.controlAfter s.control := runShape_control s i.shape t h
  exact (congrArg Prod.snd hc).trans (controlAfter_shape_status i s.control)

/-! ## Decimal adjust as arithmetic (R271) -/

/-- One adjustment of an addition, as a number. -/
theorem ite_add_eq_ofNat (p : Prop) [Decidable p] (a k : Byte) :
    (if p then a + k else a) = BitVec.ofNat 8 (a.toNat + if p then k.toNat else 0) := by
  split <;> bv_omega

/-- After an addition. The low-nibble test may look at A as it was: adding 0x60 leaves the low nibble alone. -/
theorem decimalAdjust_add (a : Byte) (h c : Bool) : decimalAdjust a false h c =
    (BitVec.ofNat 8 (a.toNat + (if c = true ∨ 0x99 < a.toNat then 0x60 else 0) +
      (if h = true ∨ 9 < a.toNat % 16 then 0x06 else 0)), decide (c = true ∨ 0x99 < a.toNat)) := by
  have hlow (p : Prop) [Decidable p] : (a.toNat + if p then 0x60 else 0) % 256 % 16 = a.toNat % 16 := by
    split <;> omega
  have hmod (m k : Nat) : BitVec.ofNat 8 (m % 256 + k) = BitVec.ofNat 8 (m + k) :=
    BitVec.eq_of_toNat_eq (Nat.mod_add_mod m 256 k)
  simp [decimalAdjust, ite_add_eq_ofNat, hlow, hmod]

/-- After a subtraction. 512 keeps the naturals from going below 0 and is a multiple of the modulus. -/
theorem decimalAdjust_sub (a : Byte) (h c : Bool) : decimalAdjust a true h c =
    (BitVec.ofNat 8 (a.toNat + 512 - (if c then 0x60 else 0) - (if h then 0x06 else 0)), c) := by
  simp only [decimalAdjust, if_true, Prod.mk.injEq, and_true]
  split <;> split <;> bv_omega

/-! ## Decimal adjust of BCD numbers (R180, R184, R271) -/

/-- A two-digit decimal number in BCD. -/
def bcd (n : Nat) : Byte := BitVec.ofNat 8 (n / 10 * 16 + n % 10)

theorem toNat_bcd {n : Nat} (h : n < 100) : (bcd n).toNat = n / 10 * 16 + n % 10 :=
  Nat.mod_eq_of_lt (by omega)

/-- The high digits carry out exactly when 0x60 is added, the low ones exactly when 0x06 is. -/
theorem decimalAdjust_add8 {x y : Nat} (hx : x < 100) (hy : y < 100) :
    decimalAdjust (add8 (bcd x) (bcd y) false).result false (add8 (bcd x) (bcd y) false).half
      (add8 (bcd x) (bcd y) false).carry = (bcd ((x + y) % 100), decide (100 ≤ x + y)) := by
  rw [decimalAdjust_add, add8_result, add8_half, add8_carry, toNat_bcd hx, toNat_bcd hy]
  simp only [decide_eq_true_eq, BitVec.toNat_ofNat, Bool.toNat_false, Nat.add_zero]
  have hsum (n : Nat) : 255 < n ∨ 0x99 < n % 2 ^ 8 ↔ 0x99 < n := by omega
  have hdigits := Nat.lt_or_ge (x / 10 + y / 10) 10
  have hhigh : 0x99 < x / 10 * 16 + x % 10 + (y / 10 * 16 + y % 10) ↔ 100 ≤ x + y := by omega
  have hlow : 15 < (x / 10 * 16 + x % 10) % 16 + (y / 10 * 16 + y % 10) % 16 ∨
      9 < (x / 10 * 16 + x % 10 + (y / 10 * 16 + y % 10)) % 2 ^ 8 % 16 ↔ 10 ≤ x % 10 + y % 10 := by omega
  simp only [hsum, hhigh, hlow, Prod.mk.injEq, and_true]
  apply BitVec.eq_of_toNat_eq
  rw [toNat_bcd (Nat.mod_lt _ (by decide)), BitVec.toNat_ofNat]
  split <;> split <;> omega

/-- The high digits borrow exactly when 0x60 is taken off, the low ones exactly when 0x06 is. -/
theorem decimalAdjust_sub8 {x y : Nat} (hx : x < 100) (hy : y < 100) :
    decimalAdjust (sub8 (bcd x) (bcd y) false).result true (sub8 (bcd x) (bcd y) false).half
      (sub8 (bcd x) (bcd y) false).carry = (bcd ((100 + x - y) % 100), decide (x < y)) := by
  rw [decimalAdjust_sub, sub8_result_false_eq_ofNat, sub8_half, sub8_carry, toNat_bcd hx, toNat_bcd hy]
  simp only [decide_eq_true_eq, BitVec.toNat_ofNat, Bool.toNat_false, Nat.add_zero]
  have hhigh : x / 10 * 16 + x % 10 < y / 10 * 16 + y % 10 ↔ x < y := by omega
  have hlow : (x / 10 * 16 + x % 10) % 16 < (y / 10 * 16 + y % 10) % 16 ↔ x % 10 < y % 10 := by omega
  simp only [hhigh, hlow, Prod.mk.injEq, and_true]
  apply BitVec.eq_of_toNat_eq
  rw [toNat_bcd (Nat.mod_lt _ (by decide)), BitVec.toNat_ofNat]
  split <;> split <;> omega

/-- Settles O56: A and the flags after ADD and SUB are the fields of one ALU call, which DAA then adjusts. -/
theorem decimalAdjustGivesDecimalSums : Obligations.DecimalAdjustGivesDecimalSums := by
  intro x y s hx hy _ sum dif
  refine ⟨Eq.trans ?_ (decimalAdjust_add8 hx hy), Eq.trans ?_ (decimalAdjust_sub8 hx hy)⟩
  · simp only [sum, aluA, State.setAluA, State.flagN_setFlags, State.flagH_setFlags, State.flagC_setFlags]
    rfl
  · simp only [dif, aluA, State.setAluA, State.flagN_setFlags, State.flagH_setFlags, State.flagC_setFlags]
    rfl

/-! ## The statements about single instructions (R270 to R278) -/

/-- CPL's complement as a number (R272). -/
theorem xor_0xFF_eq_ofNat (v : Byte) : v ^^^ 0xFF#8 = BitVec.ofNat 8 (255 - v.toNat) := by
  have hnot : v ^^^ 0xFF#8 = ~~~v := BitVec.xor_allOnes
  rw [hnot]
  bv_omega

/-- Settles O55: DAA's result after an addition and after a subtraction, CPL's as a number; the rest is the end of each
instruction. -/
theorem accumulatorAndFlagMiscellany : Obligations.AccumulatorAndFlagMiscellany := by
  refine ⟨fun a h c => ⟨?daa, decimalAdjust_sub a h c⟩,
    fun s => ⟨rfl, rfl, rfl, rfl, rfl, rfl, rfl, ?cpl, rfl, rfl⟩⟩
  case daa =>
    simp only [decide_eq_true_eq]
    exact decimalAdjust_add a h c
  case cpl =>
    rw [← xor_0xFF_eq_ofNat]
    rfl

/-- Settles O57: each ends its instruction after the write to IME or to the status; STOP has a second byte to
step over. -/
theorem interruptFlagHaltAndStop : Obligations.InterruptFlagHaltAndStop :=
  fun _ => ⟨rfl, rfl, rfl, rfl, rfl, rfl, rfl, rfl, rfl⟩

end Sys2Proof.Machine
end

section
/-! What nothing in the CORE reads (spec/60_exceptions.md R306): run from a state with IME and the timer's request bit
forgotten, each operation gives what it gives from the state itself, with the two forgotten in the state after it. -/

namespace Sys2Proof.Machine

/-! ## The timer -/

/-- A timer with its request bit forgotten. -/
def Timer.forget (t : Timer) : Timer := { t with irq := false }

theorem Timer.countOnce_forget (t : Timer) : t.forget.countOnce.forget = t.countOnce.forget := by
  unfold Timer.countOnce
  rw [show t.forget.tima = t.tima from rfl]
  split <;> rfl

/-- Counting sets the request bit whatever it was, and reads TIMA and TMA only (R315). -/
theorem Timer.countTimes_forget (n : Nat) (t : Timer) :
    (Timer.countTimes n t.forget).forget = (Timer.countTimes n t).forget := by
  induction n generalizing t with
  | zero => rfl
  | succ n ih => rw [countTimes_succ, countTimes_succ, ← ih, countOnce_forget, ih]

theorem Timer.tick_forget (c : Nat) (t : Timer) : (t.forget.tick c).forget = (t.tick c).forget := by
  unfold Timer.tick Timer.tickTima
  rw [show (t.forget.tickDiv c).enabled = (t.tickDiv c).enabled from rfl]
  split
  · exact countTimes_forget _ { t.tickDiv c with timaAcc := ((t.tickDiv c).timaAcc + c) % (t.tickDiv c).threshold }
  · rfl

theorem Timer.writeReg_forget (cfg : Config) (addr : Word) (v : Byte) (t : Timer) :
    t.forget.writeReg cfg addr v = (t.writeReg cfg addr v).forget := by
  unfold Timer.writeReg
  repeat' split
  all_goals rfl

/-! ## The Bus and the register updates -/

theorem busAfterRead_forget (addr : Word) (s : State) : busAfterRead addr s.forget = (busAfterRead addr s).forget := by
  unfold busAfterRead
  split <;> rfl

theorem busStore_forget (addr : Word) (v : Byte) (s : State) :
    busStore addr v s.forget = (busStore addr v s).forget := by
  unfold busStore
  split
  case h_4 => exact congrArg (fun t => { s.forget with timer := t }) (Timer.writeReg_forget s.cfg addr v s.timer)
  all_goals rfl

theorem State.forget_setReg (r : Reg8) (v : Byte) (s : State) : s.forget.setReg r v = (s.setReg r v).forget := by
  cases r <;> rfl

theorem State.forget_cond (cc : Cond) (s : State) : s.forget.cond cc = s.cond cc := rfl

theorem State.forget_setPair (p : Pair) (v : Word) (s : State) : s.forget.setPair p v = (s.setPair p v).forget := by
  cases p <;> rfl

theorem State.forget_setStackPair (p : StackPair) (v : Word) (s : State) :
    s.forget.setStackPair p v = (s.setStackPair p v).forget := by
  cases p <;> rfl

theorem aluA_forget (op : AluOp) (v : Byte) (s : State) : aluA op v s.forget = (aluA op v s).forget := by
  cases op <;> rfl

/-! ## The operations -/

/-- The result of an operation with the two bits forgotten in the state after it. -/
def Res.forget {α : Type} : Res α → Res α
  | .ok x s => .ok x s.forget
  | .fault e => .fault e.forget

theorem raise_forget (i : FaultInfo) (s : State) : raise i s.forget = (raise i s).forget := by
  cases i <;> rfl

theorem Res.forget_raise {α : Type} (i : FaultInfo) (s : State) :
    (.fault (raise i s.forget) : Res α) = (.fault (raise i s) : Res α).forget :=
  congrArg Res.fault (raise_forget i s)

theorem Res.forget_bind {α β : Type} {r r' : Res α} {k k' : α → State → Res β} (hr : r' = r.forget)
    (hk : ∀ x u, k' x u.forget = (k x u).forget) : r'.bind k' = (r.bind k).forget := by
  subst hr
  cases r with
  | ok x u => exact hk x u
  | fault e => rfl

theorem readByte_forget (addr : Word) (s : State) : readByte addr s.forget = (readByte addr s).forget := by
  unfold readByte
  split
  · exact Res.forget_raise _ s
  · exact congrArg (Res.ok _) (busAfterRead_forget addr s)

theorem writeByte_forget (addr : Word) (v : Byte) (s : State) :
    writeByte addr v s.forget = (writeByte addr v s).forget := by
  unfold writeByte
  split
  · exact Res.forget_raise _ s
  · exact congrArg (Res.ok _) (busStore_forget addr v s)

theorem readWord_forget (addr : Word) (s : State) : readWord addr s.forget = (readWord addr s).forget :=
  Res.forget_bind (readByte_forget addr s) fun _ u => Res.forget_bind (readByte_forget _ u) fun _ _ => rfl

theorem writeWord_forget (addr v : Word) (s : State) : writeWord addr v s.forget = (writeWord addr v s).forget :=
  Res.forget_bind (writeByte_forget addr _ s) fun _ u => writeByte_forget _ _ u

theorem moveSP_forget (sp : Word) (s : State) : moveSP sp s.forget = (moveSP sp s).forget := by
  unfold moveSP
  rw [show s.forget.cfg = s.cfg from rfl]
  split
  · rfl
  · exact Res.forget_raise _ (s.setSP sp)

theorem push16_forget (v : Word) (s : State) : push16 v s.forget = (push16 v s).forget :=
  Res.forget_bind (moveSP_forget _ s) fun _ u => writeWord_forget _ v u

theorem pop16_forget (s : State) : pop16 s.forget = (pop16 s).forget :=
  Res.forget_bind (moveSP_forget _ s) fun _ u => readWord_forget s.sp u

theorem readR8_forget (o : R8) (s : State) : readR8 o s.forget = (readR8 o s).forget := by
  cases o with
  | reg r => exact rfl
  | indHL => exact readByte_forget s.hl s

theorem writeR8_forget (o : R8) (v : Byte) (s : State) : writeR8 o v s.forget = (writeR8 o v s).forget := by
  cases o with
  | reg r => exact congrArg (Res.ok ()) (s.forget_setReg r v)
  | indHL => exact writeByte_forget s.hl v s

/-! ## The instructions -/

/-- Two outcomes are alike: equal but for the two bits. -/
def Alike (o' o : Out) : Prop := forgetOut o' = forgetOut o

theorem Alike.fault (e : Fault) : Alike (.fault e.forget) (.fault e) := by
  cases e <;> rfl

/-- The tick may set the request bit, whatever it was: so the ends of an instruction are alike, not equal. -/
theorem Alike.finish {u u' : State} {p : Word} {c : Nat} (h : u'.forget = u.forget := by rfl) :
    Alike (finish p c u') (finish p c u) := by
  have retired (w : State) : (w.forget.retired p c).forget = (w.retired p c).forget :=
    congrArg (fun t => { (w.retired p c).forget with timer := t }) (Timer.tick_forget c w.timer)
  refine congrArg Host.Outcome.next ?_
  rw [← retired u', h, retired u]

theorem Alike.andThen {α : Type} {r r' : Res α} {k k' : α → State → Out} (hr : r' = r.forget)
    (hk : ∀ x u, Alike (k' x u.forget) (k x u)) : Alike (r'.andThen k') (r.andThen k) := by
  subst hr
  cases r with
  | ok x u => exact hk x u
  | fault e => exact .fault e

/-- A register update at the end. -/
theorem Alike.update {u u' : State} {p : Word} {c : Nat} (h : u' = u.forget) :
    Alike (Machine.finish p c u') (Machine.finish p c u) := by
  subst h
  exact .finish

theorem runShape_forget (s : State) (sh : Shape) : Alike (runShape s.forget sh) (runShape s sh) := by
  cases sh with
  | ldRegInd | ldAPair | ldAAbs | ldhA | ldAC =>
    exact .andThen (readByte_forget _ (s.fetched 1)) fun v u => .update (u.forget_setReg _ v)
  | ldAInc | ldADec =>
    exact .andThen (readByte_forget _ (s.fetched 1)) fun v u =>
      .update (congrArg (State.setHL _) (u.forget_setReg .a v))
  | ldIndReg | ldIndImm | ldPairA | ldAbsA | ldhStA | ldCA | ldIncA | ldDecA =>
    exact .andThen (writeByte_forget _ _ (s.fetched 1)) fun _ _ => .finish
  | ldAbsSP => exact .andThen (writeWord_forget _ _ (s.fetched 1)) fun _ _ => .finish
  | aluR8 op o => exact .andThen (readR8_forget o (s.fetched 1)) fun v u => .update (aluA_forget op v u)
  | bitR8 y o => exact .andThen (readR8_forget o (s.fetched 2)) fun _ _ => .finish
  | rotR8 _ o | resR8 _ o | setR8 _ o =>
    exact .andThen (readR8_forget o (s.fetched 2)) fun _ u => .andThen (writeR8_forget o _ u) fun _ _ => .finish
  | incInd | decInd =>
    exact .andThen (readByte_forget _ (s.fetched 1)) fun _ u => .andThen (writeByte_forget _ _ u) fun _ _ => .finish
  | call | pushPair | restart => exact .andThen (push16_forget _ (s.fetched 1)) fun _ _ => .finish
  | ret | reti => exact .andThen (pop16_forget (s.fetched 1)) fun _ _ => .finish
  | popPair p => exact .andThen (pop16_forget (s.fetched 1)) fun v u => .update (u.forget_setStackPair p v)
  | jpCond cc n =>
    rw [runShape, runShape, jpCond, jpCond, s.forget_cond]
    split <;> exact .finish
  | jrCond cc e =>
    rw [runShape, runShape, jrCond, jrCond, s.forget_cond]
    split <;> exact .finish
  | callCond cc n =>
    rw [runShape, runShape, callCond, callCond, s.forget_cond]
    split
    · exact .andThen (push16_forget _ (s.fetched 1)) fun _ _ => .finish
    · exact .finish
  | retCond cc =>
    rw [runShape, runShape, retCond, retCond, s.forget_cond]
    split
    · exact .andThen (pop16_forget (s.fetched 1)) fun _ _ => .finish
    · exact .finish
  | illegalCode code => exact .fault (raise (.illegalOpcode s.pc code) (s.fetched 1))
  | ldRegReg dst | ldRegImm dst => exact .update (s.forget_setReg dst _)
  | incReg r => exact .update (congrArg (State.setIncFlags (s.reg r)) (s.forget_setReg r _))
  | decReg r => exact .update (congrArg (State.setDecFlags (s.reg r)) (s.forget_setReg r _))
  | ldPairImm p | incPair p | decPair p => exact .update (s.forget_setPair p _)
  | aluImm op n => exact .update (aluA_forget op n s)
  | _ => exact .finish

/-! ## The step -/

theorem fetchByte_forget (addr p : Word) (s : State) : fetchByte addr p s.forget = (fetchByte addr p s).forget := by
  unfold fetchByte
  split
  · exact Res.forget_raise _ { s with pc := p }
  · exact congrArg (Res.ok _) (busAfterRead_forget addr s)

theorem fetchInstr_forget (s : State) : fetchInstr s.forget = (fetchInstr s).forget := by
  refine Res.forget_bind (fetchByte_forget s.pc s.pc s) fun b0 u => ?_
  split
  · rfl
  · rfl
  · exact Res.forget_bind (fetchByte_forget _ _ u) fun _ _ => rfl
  · exact Res.forget_bind (fetchByte_forget _ _ u) fun _ v => Res.forget_bind (fetchByte_forget _ _ v) fun _ _ => rfl
  · exact Res.forget_bind (fetchByte_forget _ _ u) fun _ _ => rfl

theorem step_forget (s : State) : Alike (step s.forget) (step s) := by
  unfold step
  rw [show s.forget.status = s.status from rfl]
  split
  · rw [fetchInstr_forget]
    cases fetchInstr s with
    | ok i u =>
      rw [Res.forget, runFetched, runFetched, exec_eq_runShape, exec_eq_runShape]
      exact runShape_forget u i.shape
    | fault e => exact .fault e
  · rfl
  · rfl

/-- Settles O14: both steps are alike to the step of the state with the two bits forgotten. -/
theorem nothingReadsInterruptBits : Obligations.NothingReadsInterruptBits := by
  intro s t h
  calc forgetOut (step s) = forgetOut (step s.forget) := (step_forget s).symm
    _ = forgetOut (step t.forget) := by rw [h]
    _ = forgetOut (step t) := step_forget t

end Sys2Proof.Machine
end

section
/-! The tick of the timer (spec/60_exceptions.md R311, R314, R315): the divider as a division with remainder, and the
counted loop of the counter as the spec's loop, one threshold at a time. -/

namespace Sys2Proof.Machine

/-- The counter part of the tick leaves the divider alone (R314). -/
theorem Timer.tickTima_divider (c : Nat) (t : Timer) :
    (t.tickTima c).div = t.div ∧ (t.tickTima c).divAcc = t.divAcc := by
  unfold Timer.tickTima
  split
  · obtain ⟨hdiv, -, -, hdivAcc, -, -⟩ := Timer.countTimes_frame ((t.timaAcc + c) / t.threshold)
      { t with timaAcc := (t.timaAcc + c) % t.threshold }
    exact ⟨hdiv, hdivAcc⟩
  · exact ⟨rfl, rfl⟩

/-- Settles O31: n full units and a rest of m are the quotient and the remainder by 256. -/
theorem dividerCountsEveryCycle : Obligations.DividerCountsEveryCycle := by
  intro c t
  obtain ⟨hdiv, hdivAcc⟩ := Timer.tickTima_divider c (t.tickDiv c)
  exact ⟨(t.divAcc + c) / 256, (t.divAcc + c) % 256, (Nat.div_add_mod _ _).symm, Nat.mod_lt _ (by decide), rfl, hdiv,
    hdivAcc⟩

/-- TAC bit 2 as a number (spec/10_state.md R35). -/
theorem Timer.enabled_eq (t : Timer) : t.enabled = decide (t.tac.toNat / 4 % 2 = 1) := getLsbD_eq_div_mod t.tac 2

theorem Timer.threshold_eq (t : Timer) : t.threshold = if t.tac.toNat % 4 = 0 then 1024
    else if t.tac.toNat % 4 = 1 then 16 else if t.tac.toNat % 4 = 2 then 64 else 256 := by
  unfold Timer.threshold
  split <;> simp_all

/-- The loop of R315 stops below the threshold. -/
theorem Timer.tickTima_stops {c : Nat} {t : Timer} (hon : t.enabled = true) (h : t.timaAcc + c < t.threshold) :
    t.tickTima c = { t with timaAcc := t.timaAcc + c } := by
  rw [Timer.tickTima, if_pos hon, Nat.div_eq_of_lt h, Nat.mod_eq_of_lt h, Timer.countTimes_zero]

/-- At or above the threshold the loop of R315 takes off one threshold, counts once, and goes on with the rest. -/
theorem Timer.tickTima_goesOn {c : Nat} {t : Timer} (hon : t.enabled = true) (h : t.threshold ≤ t.timaAcc + c) :
    t.tickTima c = ({ t with timaAcc := t.timaAcc + c - t.threshold } : Timer).countOnce.tickTima 0 := by
  have hpos : 0 < t.threshold := Nat.lt_of_lt_of_le (by decide) t.threshold_range.1
  have hcount (a : Nat) : ({ t with timaAcc := a } : Timer).countOnce = { t.countOnce with timaAcc := a } := by
    unfold Timer.countOnce
    split <;> rfl
  obtain ⟨-, -, htac, -, -, -⟩ := t.countOnce_frame
  have hthreshold : ({ t.countOnce with timaAcc := t.timaAcc + c - t.threshold } : Timer).threshold = t.threshold := by
    simp only [Timer.threshold, htac]
  rw [hcount, Timer.tickTima, if_pos hon, Nat.div_eq_sub_div hpos h, Nat.mod_eq_sub_mod h, Timer.countTimes_succ,
    hcount, Timer.tickTima, hthreshold, if_pos]
  · rfl
  · rw [← hon, Timer.enabled, Timer.enabled, htac]

/-- Settles O32: the counted loop takes the steps of the spec's loop. -/
theorem counterLoopOfTheTick : Obligations.CounterLoopOfTheTick := by
  refine ⟨fun _ _ => rfl, fun c t hoff => ?off, Timer.threshold_eq,
    fun c t hon h => Timer.tickTima_stops ((t.enabled_eq).trans (decide_eq_true hon)) h, fun c t hon h => ?goesOn⟩
  case off =>
    rw [Timer.tickTima, Timer.enabled_eq, if_neg (by simp [hoff])]
  case goesOn =>
    rw [Timer.tickTima_goesOn (t.enabled_eq.trans (decide_eq_true hon)) h, Timer.countOnce]
    refine ⟨fun hmax => ?_, fun hlt => ?_⟩
    · rw [if_pos (BitVec.eq_of_toNat_eq hmax)]
    · rw [if_neg (fun heq => by simp [show t.tima = 0xFF#8 from heq] at hlt)]

end Sys2Proof.Machine
end

section
/-! The faults of a step and of an instruction (spec/60_exceptions.md R300 to R302): what the state they leave holds,
and which instruction raises which. -/

namespace Sys2Proof

/-- Whether a shape reads the byte at HL and stores it back. -/
def Shape.modifiesHL : Shape → Bool
  | .incInd | .decInd | .rotR8 _ .indHL | .resR8 _ .indHL | .setR8 _ .indHL => true
  | _ => false

namespace Machine

/-! ## A faulting step -/

/-- The state a fault leaves records it, without a tick or a count since s (R301). -/
structure Recorded (s : State) (e : Fault) : Prop where
  status : e.final.status = .faulted e.info
  timer : e.final.timer = s.timer
  elapsed : e.final.elapsed = s.elapsed
  sp : ∀ v, e.info = .stackFault v → e.final.sp = v

theorem FaultOf.recorded {s : State} {e : Fault} (h : FaultOf s e) : Recorded s e := by
  cases h with
  | illegal code => exact ⟨rfl, rfl, rfl, nofun⟩
  | access addr kind u _ ht he => exact ⟨rfl, ht, he, nofun⟩
  | stack v _ _ => exact ⟨rfl, rfl, rfl, fun w hw => FaultInfo.stackFault.inj hw⟩

/-- The fetch faults as `FaultOf` says, or goes on with the timer and the count as in s. -/
def FetchOutcome {α : Type} (s : State) : Res α → Prop
  | .ok _ u => u.timer = s.timer ∧ u.elapsed = s.elapsed
  | .fault e => FaultOf s e

theorem FetchOutcome.bind {α β : Type} {s : State} {r : Res α} {k : α → State → Res β} (hr : FetchOutcome s r)
    (hk : ∀ x u, u.timer = s.timer ∧ u.elapsed = s.elapsed → FetchOutcome s (k x u)) : FetchOutcome s (r.bind k) := by
  cases r with
  | ok x u => exact hk x u hr
  | fault e => exact hr

theorem fetchByte_outcome {s u : State} (h : u.timer = s.timer ∧ u.elapsed = s.elapsed) (addr p : Word) :
    FetchOutcome s (fetchByte addr p u) := by
  cases hp : prohibited addr
  · rw [fetchByte_ok hp]
    exact ⟨(busAfterRead_timer _ _).trans h.1, (busAfterRead_elapsed _ _).trans h.2⟩
  · rw [fetchByte_fault hp]
    exact .access addr .read _ hp h.1 h.2

theorem fetchInstr_outcome (s : State) : FetchOutcome s (fetchInstr s) := by
  refine (fetchByte_outcome ⟨rfl, rfl⟩ _ _).bind fun b0 u hu => ?_
  split
  · exact hu
  · exact hu
  · exact (fetchByte_outcome hu _ _).bind fun _ _ h => h
  · exact (fetchByte_outcome hu _ _).bind fun _ _ h => (fetchByte_outcome h _ _).bind fun _ _ h' => h'
  · exact (fetchByte_outcome hu _ _).bind fun _ _ h => h

theorem step_fault_recorded {s : State} {e : Fault} (h : step s = .fault e) : Recorded s e := by
  have hfetch := fetchInstr_outcome s
  unfold step at h
  split at h
  · cases hf : fetchInstr s with
    | ok i u =>
      rw [hf] at h hfetch
      obtain ⟨hstatus, htimer, helapsed, hsp⟩ := (exec_fault h).recorded
      exact ⟨hstatus, htimer.trans hfetch.1, helapsed.trans hfetch.2, hsp⟩
    | fault e' =>
      rw [hf] at h hfetch
      cases h
      exact hfetch.recorded
  · cases h
  · cases h

/-- Settles O16: the step's fault is one of the fetch or one of the instruction fetched. -/
theorem faultRecordsInfoAndDoesNotTick : Obligations.FaultRecordsInfoAndDoesNotTick := by
  refine ⟨fun s e h => ?_, fun i s => ⟨raise_info i s, raise_final i s⟩, fun _ _ => rfl, fun _ _ => rfl, fun _ => rfl⟩
  obtain ⟨hstatus, htimer, helapsed, hsp⟩ := step_fault_recorded h
  exact ⟨hstatus, htimer, helapsed, hsp⟩

/-! ## Which instruction raises which fault (R302) -/

/-- What the record of a fault of i at s may say. -/
def MayRecord (i : Instr) (s : State) : FaultInfo → Prop
  | .illegalOpcode a c => i.wellFormed = false ∧ a = s.pc ∧ ∃ b : Byte, encode i = [b] ∧ c = b.setWidth 16
  | .stackFault v => inStackWindow s.cfg v = false ∧
      ((∃ w, PushForm i s w ∧ v = s.sp - 2) ∨ ∃ w, PopForm i s w ∧ v = s.sp + 2)
  | .prohibitedAccess a .read => prohibited a = true ∧
      ((∃ addr w, LoadForm i addr w ∧ a = addr s) ∨ (ReadModifyWrite i ∧ a = s.hl) ∨
        ∃ w, PopForm i s w ∧ inStackWindow s.cfg (s.sp + 2) = true ∧ (a = s.sp ∨ a = s.sp + 1))
  | .prohibitedAccess a .write => prohibited a = true ∧
      ((∃ addrs w, StoreForm i addrs w ∧ ¬ ReadModifyWrite i ∧ a ∈ addrs s) ∨
        ∃ v, PushForm i s v ∧ inStackWindow s.cfg (s.sp - 2) = true ∧ (a = s.sp - 2 ∨ a = s.sp - 1))

/-- The operation records only what a fault of i at s may. -/
abbrev RecordsFor {α : Type} (i : Instr) (s : State) (r : Res α) : Prop := RecordsIn (MayRecord i s) r

theorem LoadForm.records {i : Instr} {addr : State → Word} {w : Writes} (hf : LoadForm i addr w) (s u : State) :
    RecordsFor i s (readByte (addr s) u) :=
  recordsIn_readByte (fun hp => ⟨hp, .inl ⟨addr, w, hf, rfl⟩⟩) u

theorem ReadModifyWrite.records {i : Instr} (hf : ReadModifyWrite i) (s u : State) :
    RecordsFor i s (readByte s.hl u) :=
  recordsIn_readByte (fun hp => ⟨hp, .inr (.inl ⟨hf, rfl⟩)⟩) u

theorem LoadForm.records_readR8 {i : Instr} {o : R8} (hf : o = .indHL → ∃ w, LoadForm i State.hl w) (n : Word)
    (s : State) : RecordsFor i s (readR8 o (s.fetched n)) :=
  recordsIn_readR8 o n fun ho hp =>
    have ⟨w, hload⟩ := hf ho
    ⟨hp, .inl ⟨State.hl, w, hload, rfl⟩⟩

theorem ReadModifyWrite.records_readR8 {i : Instr} {o : R8} (hf : o = .indHL → ReadModifyWrite i) (n : Word)
    (s : State) : RecordsFor i s (readR8 o (s.fetched n)) :=
  recordsIn_readR8 o n fun ho hp => ⟨hp, .inr (.inl ⟨hf ho, rfl⟩)⟩

theorem PushForm.records {i : Instr} {s : State} {v : Word} (hf : PushForm i s v) :
    RecordsFor i s (push16 v (s.fetched 1)) :=
  recordsIn_push16 (fun hw => ⟨hw, .inl ⟨v, hf, rfl⟩⟩) (fun hw _ hp ha => ⟨hp, .inr ⟨v, hf, hw, ha⟩⟩) v

theorem PopForm.records {i : Instr} {s : State} {w : Writes} (hf : PopForm i s w) :
    RecordsFor i s (pop16 (s.fetched 1)) :=
  recordsIn_pop16 (fun hw => ⟨hw, .inr ⟨w, hf, rfl⟩⟩) (fun hw _ hp ha => ⟨hp, .inr (.inr ⟨w, hf, hw, ha⟩)⟩)

theorem ReadModifyWrite.modifiesHL {i : Instr} (h : ReadModifyWrite i) : i.shape.modifiesHL = true := by
  cases h with
  | incInd | decInd => rfl
  | rot op => rw [Instr.shape_ofRot]; rfl
  | res y => rw [Instr.shape_ofRes]; rfl
  | set y => rw [Instr.shape_ofSet]; rfl

theorem StoreForm.mayRecord {i : Instr} {addrs : State → List Word} {w : Writes} (hf : StoreForm i addrs w)
    (hm : i.shape.modifiesHL = false) {s : State} {a : Word} (ha : a ∈ addrs s) (hp : prohibited a = true) :
    MayRecord i s (.prohibitedAccess a .write) :=
  ⟨hp, .inl ⟨addrs, w, hf, fun h => Bool.false_ne_true (hm.symm.trans h.modifiesHL), ha⟩⟩

/-- A store form with one address. -/
theorem StoreForm.records {i : Instr} {addr : State → Word} {w : Writes} (hf : StoreForm i (fun s => [addr s]) w)
    (hm : i.shape.modifiesHL = false) (s : State) (v : Byte) (u : State) :
    RecordsFor i s (writeByte (addr s) v u) :=
  recordsIn_writeByte (hf.mayRecord hm List.mem_cons_self) v u

/-- An unassigned code is one byte long, and its shape has that byte as the code (R114). -/
theorem unassigned_byte {i : Instr} (hi : i ∈ Instr.unassigned) :
    ∃ b : Byte, encode i = [b] ∧ i.shape = .illegalCode (b.setWidth 16) := by
  fin_cases hi <;> exact ⟨_, rfl, rfl⟩

theorem illegalCode_instr_unassigned (code : Word) : (Shape.illegalCode code).instr ∈ Instr.unassigned := by
  simp only [Shape.instr]
  repeat' split
  all_goals decide

theorem finish_records {i : Instr} {s u : State} {p : Word} {c : Nat} :
    ∀ e, finish p c u = .fault e → MayRecord i s e.info := by
  intro e h
  cases h

/-- Shape by shape. That sh is the shape of an instruction matters for the unassigned codes only, of which there are
fewer than `illegalCode` has values. -/
theorem shape_records {sh : Shape} (hsh : sh.instr.shape = sh) (s : State) :
    ∀ e, runShape s sh = .fault e → MayRecord sh.instr s e.info := by
  cases sh with
  | ldRegInd dst => exact ((LoadForm.ldRegInd dst).records s _).finish
  | ldAPair p => exact ((LoadForm.ldAPair p).records s _).finish
  | ldAAbs n => exact ((LoadForm.ldAAbs n).records s _).finish
  | ldhA n => exact ((LoadForm.ldhA n).records s _).finish
  | ldAC => exact (LoadForm.ldAC.records s _).finish
  | ldAInc => exact (LoadForm.ldAInc.records s _).finish
  | ldADec => exact (LoadForm.ldADec.records s _).finish
  | aluR8 op o => exact (LoadForm.records_readR8 (by rintro rfl; exact ⟨_, .alu op⟩) 1 s).finish
  | bitR8 y o => exact (LoadForm.records_readR8 (by rintro rfl; exact ⟨_, .bit y⟩) 2 s).finish
  | ldIndReg r => exact ((StoreForm.ldIndReg r).records (congrArg Shape.modifiesHL hsh) s _ _).finish
  | ldIndImm n => exact ((StoreForm.ldIndImm n).records rfl s _ _).finish
  | ldPairA p => exact ((StoreForm.ldPairA p).records (congrArg Shape.modifiesHL hsh) s _ _).finish
  | ldAbsA n => exact ((StoreForm.ldAbsA n).records rfl s _ _).finish
  | ldhStA n => exact ((StoreForm.ldhA n).records rfl s _ _).finish
  | ldCA => exact (StoreForm.ldCA.records rfl s _ _).finish
  | ldIncA => exact (StoreForm.ldIncA.records rfl s _ _).finish
  | ldDecA => exact (StoreForm.ldDecA.records rfl s _ _).finish
  | ldAbsSP n =>
    exact (recordsIn_writeWord (fun a hp ha => (StoreForm.ldAbsSP n).mayRecord rfl (by simpa using ha) hp) _ _).finish
  | incInd =>
    exact (ReadModifyWrite.incInd.records s _).andThen fun _ _ h => (recordsIn_store_after h _ _).finish
  | decInd =>
    exact (ReadModifyWrite.decInd.records s _).andThen fun _ _ h => (recordsIn_store_after h _ _).finish
  | rotR8 op o =>
    exact (ReadModifyWrite.records_readR8 (by rintro rfl; exact .rot op) 2 s).andThen
      fun _ _ h => (recordsIn_writeR8_after o h _).finish
  | resR8 y o =>
    exact (ReadModifyWrite.records_readR8 (by rintro rfl; exact .res y) 2 s).andThen
      fun _ _ h => (recordsIn_writeR8_after o h _).finish
  | setR8 y o =>
    exact (ReadModifyWrite.records_readR8 (by rintro rfl; exact .set y) 2 s).andThen
      fun _ _ h => (recordsIn_writeR8_after o h _).finish
  | call n => exact (PushForm.call n s).records.finish
  | pushPair p => exact (PushForm.push p s).records.finish
  | restart y => exact (PushForm.rst y s).records.finish
  | callCond cc n =>
    rw [runShape, callCond]
    split
    · exact (PushForm.callCond cc n s ‹_›).records.finish
    · exact finish_records
  | ret => exact (PopForm.ret s).records.finish
  | reti => exact (PopForm.reti s).records.finish
  | popPair p => exact (PopForm.pop p s).records.finish
  | retCond cc =>
    rw [runShape, retCond]
    split
    · exact (PopForm.retCond cc s ‹_›).records.finish
    · exact finish_records
  | jpCond cc n =>
    rw [runShape, jpCond]
    split <;> exact finish_records
  | jrCond cc e =>
    rw [runShape, jrCond]
    split <;> exact finish_records
  | illegalCode code =>
    intro e h
    cases h
    obtain ⟨b, hencode, hcode⟩ := unassigned_byte (illegalCode_instr_unassigned code)
    rw [raise_info]
    exact ⟨Instr.wellFormed_eq_false.2 (illegalCode_instr_unassigned code), rfl, b, hencode,
      Shape.illegalCode.inj (hsh.symm.trans hcode)⟩
  | _ => exact finish_records

theorem exec_mayRecord {i : Instr} {s : State} {e : Fault} (h : exec i s = .fault e) : MayRecord i s e.info := by
  rw [exec_eq_runShape] at h
  have hrecords := shape_records (congrArg Instr.shape i.instr_shape) s e h
  rwa [i.instr_shape] at hrecords

/-! ## The forms that raise none (R302) -/

theorem registerForm_next {i : Instr} {w : Writes} (hf : RegisterForm i w) (s : State) : ∃ t, exec i s = .next t := by
  rw [exec_eq_runShape]
  cases hf with
  | ldRegReg | ldRegImm | ldPairImm | aluReg | aluImm | incReg | decReg | incPair | decPair | addHL | rot | bit | res
  | set =>
    simp only [Instr.shape_ofLdRegReg, Instr.shape_ofLdRegImm, Instr.shape_ofLdPairImm, Instr.shape_ofAluR8,
      Instr.shape_ofAluImm, Instr.shape_ofIncReg, Instr.shape_ofDecReg, Instr.shape_ofIncPair, Instr.shape_ofDecPair,
      Instr.shape_ofAddHL, Instr.shape_ofRot, Instr.shape_ofBit, Instr.shape_ofRes, Instr.shape_ofSet]
    exact ⟨_, rfl⟩
  | jpCond cc n =>
    rw [Instr.shape_ofJpCond, runShape, jpCond]
    split <;> exact ⟨_, rfl⟩
  | jrCond cc e =>
    rw [Instr.shape_ofJrCond, runShape, jrCond]
    split <;> exact ⟨_, rfl⟩
  | _ => exact ⟨_, rfl⟩

theorem skipForm_next {i : Instr} {s : State} (hf : SkipForm i s) : ∃ t, exec i s = .next t := by
  cases hf with
  | callCond cc n _ skipped => exact ⟨_, exec_ofCallCond_skipped skipped n⟩
  | retCond cc _ skipped => exact ⟨_, exec_ofRetCond_skipped skipped⟩

theorem ne_fault_of_next {o : Out} (h : ∃ t, o = .next t) (e : Fault) : o ≠ .fault e := by
  obtain ⟨t, rfl⟩ := h
  exact nofun

theorem ReadModifyWrite.storesToHL {i : Instr} (h : ReadModifyWrite i) :
    ∃ addrs w, StoreForm i addrs w ∧ ∀ s, addrs s = [s.hl] := by
  cases h with
  | incInd => exact ⟨_, _, .incInd, fun _ => rfl⟩
  | decInd => exact ⟨_, _, .decInd, fun _ => rfl⟩
  | rot op => exact ⟨_, _, .rot op, fun _ => rfl⟩
  | res y => exact ⟨_, _, .res y, fun _ => rfl⟩
  | set y => exact ⟨_, _, .set y, fun _ => rfl⟩

/-- Settles O17: shape by shape for the instructions that fault; the others end in a next state. -/
theorem whichFaultsAnInstructionRaises : Obligations.WhichFaultsAnInstructionRaises := by
  refine ⟨fun i s e h => ?faults, fun i w s e hf => ne_fault_of_next (registerForm_next hf s) e,
    fun i s e hf => ne_fault_of_next (skipForm_next hf) e, fun i h => h.storesToHL, fun n s e => ?highPage⟩
  case faults =>
    have hrecord := exec_mayRecord h
    refine ⟨fun a c hi => ?_, fun v hi => ?_, fun a hi => ?_, fun a hi => ?_⟩ <;> rw [hi] at hrecord <;> exact hrecord
  case highPage =>
    obtain ⟨himmediate, hregister⟩ := loadAndStoreHighPage
    obtain ⟨-, hload, -, hstore⟩ := himmediate n s
    obtain ⟨-, hloadC, -, hstoreC⟩ := hregister s
    exact ⟨ne_fault_of_next ⟨_, hload⟩ e, ne_fault_of_next ⟨_, hstore⟩ e, ne_fault_of_next ⟨_, hloadC⟩ e,
      ne_fault_of_next ⟨_, hstoreC⟩ e⟩

end Machine
end Sys2Proof
end

section
/-! The host surface (spec/70_reset_and_hazards.md R342 to R352, R355): what a step returns, loading a cartridge, and
what the host does between steps. -/

namespace Sys2Proof.Machine

/-! ## What a step returns (R349, R355) -/

theorem step_ended {s : State} (h : s.status ≠ .running) : step s = .next s := by
  cases hs : s.status with
  | running => exact absurd hs h
  | stopped | faulted => rw [step, hs]

theorem stepCycles_next {s t : State} (h : step s = .next t) : stepCycles s = some (t.elapsed - s.elapsed) := by
  rw [stepCycles, h]

theorem stepCycles_fault {s : State} {e : Fault} (h : step s = .fault e) : stepCycles s = none := by
  rw [stepCycles, h]

/-- No primitive change of the state touches the count. -/
theorem keeps_elapsed (n : Nat) : Keeps fun u => u.elapsed = n where
  gpr := fun _ _ _ _ _ _ _ _ _ _ _ _ h => h
  flags := fun _ _ h => h
  draw := fun _ _ h => h
  store := fun u addr v _ h => (busStore_elapsed addr v u).trans h

theorem EndsIn.elapsed {cfg : Config} {n : Nat} {o : Out} (h : EndsIn cfg (fun u => u.elapsed = n) o) {t : State}
    (ho : o = .next t) : ∃ c, IsCount cfg c ∧ t.elapsed = n + c := by
  cases h with
  | finish u p c hu hc =>
    cases ho
    exact ⟨c, hc, congrArg (· + c) hu⟩
  | fault e he => cases ho

/-- A step of a running machine that does not fault counts one entry of the cycle table: the fetch counts nothing. -/
theorem step_elapsed {s t : State} (hrun : s.status = .running) (h : step s = .next t) :
    ∃ c, IsCount s.cfg c ∧ t.elapsed = s.elapsed + c :=
  ((keeps_elapsed s.elapsed).step rfl hrun).elapsed h

/-- Settles O9: an ended machine answers itself; a running one counts one entry of the cycle table. -/
theorem stepAfterTheEndChangesNothing : Obligations.StepAfterTheEndChangesNothing := by
  refine ⟨fun s hend => ?ended, fun s hrun => ⟨fun t h => ?next, fun e h => stepCycles_fault h⟩⟩
  case ended =>
    have hstep := step_ended hend
    exact ⟨hstep, by rw [stepCycles_next hstep, Nat.sub_self]⟩
  case next =>
    obtain ⟨c, hcount, helapsed⟩ := step_elapsed hrun h
    exact ⟨c, by rw [stepCycles_next h, helapsed, Nat.add_sub_cancel_left], helapsed, hcount.default⟩

/-! ## Loading a cartridge (R342 to R348) -/

section
variable {cfg : Config} {image : List Byte}

theorem loadCartridge_tooShort (h : image.length < 0x148) : loadCartridge cfg image = .error .tooShort :=
  if_pos h

theorem loadCartridge_logoMismatch (hlen : 0x148 ≤ image.length) (h : headerLogo image ≠ cfg.logo) :
    loadCartridge cfg image = .error .logoMismatch := by
  rw [loadCartridge, if_neg (Nat.not_lt.2 hlen), if_pos h]

theorem loadCartridge_unsupported (hlen : 0x148 ≤ image.length) (hlogo : headerLogo image = cfg.logo)
    (h : variantOf (headerByte image 0x147) = none) :
    loadCartridge cfg image = .error (.unsupportedType (headerByte image 0x147)) := by
  rw [loadCartridge, if_neg (Nat.not_lt.2 hlen), if_neg (not_not.2 hlogo), h]

theorem loadCartridge_ok (hlen : 0x148 ≤ image.length) (hlogo : headerLogo image = cfg.logo) {v : Variant}
    (h : variantOf (headerByte image 0x147) = some v) :
    loadCartridge cfg image = .ok (State.initial cfg (cartOf cfg v image)) := by
  rw [loadCartridge, if_neg (Nat.not_lt.2 hlen), if_neg (not_not.2 hlogo), h]

end

section
variable {code : Byte}

theorem variantOf_none (h : code.toNat = 0) : variantOf code = some .none :=
  if_pos h

theorem variantOf_combo (h : 1 ≤ code.toNat ∧ code.toNat ≤ 3) : variantOf code = some .combo := by
  rw [variantOf, if_neg (by omega), if_pos h.2]

theorem variantOf_ramonly (h : code.toNat = 5 ∨ code.toNat = 6) : variantOf code = some .ramonly := by
  rw [variantOf, if_neg (by omega), if_neg (by omega), if_pos h]

theorem variantOf_unsupported (h : code.toNat = 4 ∨ 7 ≤ code.toNat) : variantOf code = none := by
  rw [variantOf, if_neg (by omega), if_neg (by omega), if_neg (by omega)]

end

/-- Settles O59: check by check and variant by variant; the bytes of ROM and of the default table by their own
lemmas. -/
theorem cartridgeLoadChecksAndBuilds : Obligations.CartridgeLoadChecksAndBuilds := by
  refine ⟨fun cfg image => ⟨loadCartridge_tooShort, loadCartridge_logoMismatch, fun hlen hlogo => ?loaded⟩,
    Memory.read_ofBytes, fun n bytes o h => Memory.read_ofBytes_take_of_lt h bytes, fun code => ?table⟩
  case loaded =>
    exact ⟨fun h => loadCartridge_ok hlen hlogo (variantOf_none h),
      fun h => loadCartridge_ok hlen hlogo (variantOf_combo h),
      fun h => loadCartridge_ok hlen hlogo (variantOf_ramonly h),
      fun h => loadCartridge_unsupported hlen hlogo (variantOf_unsupported h)⟩
  case table =>
    rw [ramSizeOfCode_default]
    simp only [← BitVec.toNat_inj]
    rfl

/-! ## Host setters (R351) -/

theorem State.pair_setPair (p : Pair) (v : Word) (s : State) : (s.setPair p v).pair p = v := by
  cases p with
  | bc | de | hl => exact joinBytes_hiByte_loByte v
  | sp => rfl

/-! ## Host push and pop (R351) -/

theorem push16_completes {s : State} (hw : inStackWindow s.cfg (s.sp - 2) = true)
    (ha : wordAccessible (s.sp - 2) = true) (v : Word) : push16 v s =
      .ok () ((busStore (s.sp - 1) (hiByte v) (busStore (s.sp - 2) (loByte v) s)).setSP (s.sp - 2)) := by
  rw [push16_ok hw ha, sub_two_add_one, busStore_setSP, busStore_setSP]

theorem pop16_completes {s : State} (hw : inStackWindow s.cfg (s.sp + 2) = true) (ha : wordAccessible s.sp = true) :
    pop16 s = .ok (joinBytes (busValue (s.sp + 1) (busAfterRead s.sp s)) (busValue s.sp s))
      ((busAfterRead (s.sp + 1) (busAfterRead s.sp s)).setSP (s.sp + 2)) := by
  rw [pop16_ok hw ha]
  simp only [busAfterRead_setSP, busValue_setSP]

/-- A pop of two bytes that the CORE owns changes SP only (R83). -/
theorem pop16_owned {s : State} (hw : inStackWindow s.cfg (s.sp + 2) = true) (hlo : Owned s.sp)
    (hhi : Owned (s.sp + 1)) :
    pop16 s = .ok (joinBytes (busValue (s.sp + 1) s) (busValue s.sp s)) (s.setSP (s.sp + 2)) := by
  have ha : wordAccessible s.sp = true := by
    rw [wordAccessible, hlo.2, hhi.2]
    rfl
  rw [pop16_completes hw ha, busAfterRead_own hlo.1, busAfterRead_own hhi.1]

section
variable {addr : Word} (hr : regionOf addr = .highRam)
include hr

theorem owned_of_highRam : Owned addr :=
  owned_iff.2 (.inr (.inr (.inr (regionOf_highRam.1 hr).1)))

theorem busStore_highRam_timer (v : Byte) (s : State) : (busStore addr v s).timer = s.timer := by
  rw [busStore_highRam hr]

/-- A high RAM byte reads back what was stored there. -/
theorem busValue_busStore_highRam {s : State} (hs : s.Inv) (v : Byte) : busValue addr (busStore addr v s) = v :=
  (readGivesTheLastByteWritten addr v s hs).1 (.inr (.inl (regionOf_highRam.1 hr).1))

theorem steady_of_highRam : steady addr = true := by
  have hrange := regionOf_highRam.1 hr
  obtain ⟨hext, hproh⟩ := owned_of_highRam hr
  simp only [steady, hext, hproh, Bool.not_false, Bool.true_and, Bool.and_eq_true, bne_iff_ne]
  constructor <;> rintro rfl <;> simp at hrange

/-- A store to high RAM reaches no other address. -/
theorem storeReaches_highRam_other {x : Word} (hne : x ≠ addr) (s : State) : storeReaches s addr x = false := by
  simp [storeReaches, hr, hne]

end

/-- Both bytes of a push inside the default window lie in high RAM. -/
theorem highRam_of_default_window {cfg : Config} {sp : Word} (hlo : cfg.stackLo = 0xFF80) (hhi : cfg.stackHi = 0xFFFE)
    (hbefore : inStackWindow cfg sp = true) (hafter : inStackWindow cfg (sp - 2) = true) :
    regionOf (sp - 2) = .highRam ∧ regionOf (sp - 1) = .highRam := by
  rw [inStackWindow_iff, hlo, hhi] at hbefore hafter
  simp only [regionOf_highRam]
  bv_omega

/-- What was pushed to high RAM is popped again, and status and timer are as before the push. -/
theorem pop16_after_push16 {s t : State} {v : Word} {u : Unit} (hs : s.Inv) (hw : inStackWindow s.cfg s.sp = true)
    (hlo : regionOf (s.sp - 2) = .highRam) (hhi : regionOf (s.sp - 1) = .highRam) (h : push16 v s = .ok u t) :
    t.status = s.status ∧ t.timer = s.timer ∧ pop16 t = .ok v (t.setSP s.sp) := by
  obtain ⟨hwindow, haccess, -⟩ := push16_eq_ok h
  rw [push16_completes hwindow haccess] at h
  cases h
  have hback : s.sp - 2 + 2 = s.sp := BitVec.sub_add_cancel _ _
  have hne : s.sp - 2 ≠ s.sp - 1 := by bv_omega
  refine ⟨by simp, ?timer, ?pop⟩
  case timer => rw [State.setSP_timer, busStore_highRam_timer hhi, busStore_highRam_timer hlo]
  case pop =>
    have howned : Owned (s.sp - 2 + 1) := sub_two_add_one s.sp ▸ owned_of_highRam hhi
    rw [pop16_owned (by simpa [hback] using hw) (owned_of_highRam hlo) howned]
    simp only [State.setSP_sp, busValue_setSP, sub_two_add_one, hback]
    rw [busValue_busStore_highRam hhi (hs.busStore _ _),
      busValue_busStore_other (steady_of_highRam hlo) (storeReaches_highRam_other hhi hne _),
      busValue_busStore_highRam hlo hs, joinBytes_hiByte_loByte]

/-! ## Saving and restoring cartridge RAM (R352) -/

@[simp] theorem Memory.length_toBytes (m : Memory) (n : Nat) : (Memory.toBytes m n).length = n := by
  simp [Memory.toBytes]

theorem Memory.getD_toBytes {n i : Nat} (h : i < n) (m : Memory) (d : Byte) :
    (Memory.toBytes m n).getD i d = Memory.read m i := by
  simp [Memory.toBytes, h]

theorem State.Inv.loadRam {s : State} (h : s.Inv) (bs : List Byte) : (loadRam bs s).Inv :=
  { h with
    cram := ⟨Memory.wf_writeBytes h.cram.canonical 0 _, Memory.below_writeBytes h.cram.inRange 0 _ (by simp)⟩ }

/-- Cartridge RAM after a restore: the bytes given where they fit, and what it held elsewhere. -/
theorem read_loadRam {s : State} (h : s.Inv) (bs : List Byte) (o : Nat) :
    Memory.read (loadRam bs s).cart.cram o =
      if o < bs.length ∧ o < s.cart.ramSize then bs.getD o 0 else Memory.read s.cart.cram o := by
  refine (Memory.read_writeBytes h.cram.canonical 0 (bs.take s.cart.ramSize) o).trans ?_
  simp only [List.length_take, Nat.zero_le, true_and, Nat.zero_add, Nat.sub_zero, lt_min_iff]
  by_cases ho : o < s.cart.ramSize ∧ o < bs.length
  · rw [if_pos ho, if_pos ho.symm]
    simp [List.getD_eq_getElem?_getD, List.getElem?_take_of_lt ho.1, Memory.unlisted]
  · rw [if_neg ho, if_neg (fun h => ho h.symm)]

/-- Settles O60: each setter is one register update; a push or pop is that of the instructions; a restore writes bytes
into cartridge RAM. -/
theorem hostAccessBetweenSteps : Obligations.HostAccessBetweenSteps := by
  simp only [Obligations.HostAccessBetweenSteps, ← hiByte_eq_ofNat, ← loByte_eq_ofNat, ← maskF_eq_ofNat,
    ← loByte_maskF, ← joinBytes_eq_ofNat]
  refine ⟨fun v s => ⟨rfl, rfl, rfl, rfl, rfl, rfl, rfl, rfl⟩,
    fun v s => ⟨rfl, rfl, rfl, rfl, rfl, rfl, fun p => s.pair_setPair p v⟩,
    fun v s => ⟨fun hw ha => push16_completes hw ha v, push16_window⟩, fun s => ⟨pop16_completes, pop16_window⟩,
    fun v s t u hs hlo hhi hw h => ?pushPop,
    fun s => ⟨Memory.length_toBytes _ _, fun o ho => Memory.getD_toBytes ho _ 0, rfl⟩, fun bs s => rfl,
    fun bs s hs => ⟨hs.loadRam bs, fun o hlen hsize => ?restored, fun o h => ?kept⟩⟩
  case pushPop =>
    obtain ⟨hwindow, -, -⟩ := push16_eq_ok h
    obtain ⟨hlow, hhigh⟩ := highRam_of_default_window hlo hhi hw hwindow
    exact pop16_after_push16 hs hw hlow hhigh h
  case restored => rw [read_loadRam hs, if_pos ⟨hlen, hsize⟩]
  case kept => rw [read_loadRam hs, if_neg (by omega)]

end Sys2Proof.Machine
end
